-- ==== Sys2Proof/Word.lean ====
section
/-! DEFINITION. The word types of the block (00_scope R6, R10): bytes, the 4-byte frame, and the 64-bit
patterns of binary64 numbers. -/

namespace Sys2Proof

/-- One byte of a frame, an opcode or a register address (R6). -/
abbrev Byte := BitVec 8

/-- The bit pattern of an IEEE 754 binary64 number (R13). -/
abbrev F64 := BitVec 64

/-- A 4-byte frame `[F0, F1, F2, F3]`; `f0` is exchanged first (R10). -/
structure Frame where
  f0 : Byte
  f1 : Byte
  f2 : Byte
  f3 : Byte
deriving DecidableEq, Repr

/-- `frame32(F) = F0<<24 | F1<<16 | F2<<8 | F3`, the display form of a frame (R10). -/
def frame32 (f : Frame) : BitVec 32 := f.f0 ++ f.f1 ++ f.f2 ++ f.f3

end Sys2Proof
end

