-- ==== Sys2Proof/Syntax.lean ====
section
/-! DEFINITION. The syntax of the block's two encoded interfaces (30_encoding R70): the command frame CMD32
and the request port REQ, and the instructions, one constructor per row of spec/opcode_table.json. -/

namespace Sys2Proof

/-- InputRange: the nine ranges, in the order of the port encoding (30 R81, 42 R170). -/
inductive InputRange where
  | bip3 | bip2p5 | bip1p5 | bip1p25 | bip0p625
  | uni3 | uni2p5 | uni1p5 | uni1p25
deriving DecidableEq, Repr

/-- ReferenceMode: Internal or External (00_scope R15). -/
inductive RefMode where
  | internal | external
deriving DecidableEq, Repr

/-- The eight named device commands (30 R73). -/
inductive DeviceCommand where
  | nop | read | readHword | write | writeMsbyte | writeLsbyte | setHword | clearHword
deriving DecidableEq, Repr

/-- One request as the wires of the request port carry it: the fields of 30 R77. -/
structure Request where
  op : BitVec 3
  opcode : Byte
  addr : Byte
  data : BitVec 16
  range : BitVec 4
  ref : BitVec 1
  vrefValid : BitVec 1
  vref : F64
deriving DecidableEq, Repr

/-- What a caller presents: a REQ bundle (R77), or a command frame CMD32, the model's form of the shorthands
of R86 that stand for the SEND_RAW request carrying that frame (log 1). -/
inductive PortWord where
  | req (r : Request)
  | cmd (f : Frame)
deriving DecidableEq, Repr

/-- The instructions: the rows of spec/opcode_table.json in the table's order. The first nine are the command
frames (format CMD32), which the block carries out as the SEND_RAW they stand for (R75, R86); the other
eight are the request operations (format REQ, R79). -/
inductive Instr where
  /-- NOP (40 R107). -/
  | nop (addr : Byte) (data : BitVec 16)
  /-- READ (40 R108). -/
  | read (addr : Byte) (data : BitVec 16)
  /-- READ_HWORD (40 R109). -/
  | readHword (addr : Byte) (data : BitVec 16)
  /-- WRITE (40 R110). -/
  | write (addr : Byte) (data : BitVec 16)
  /-- WRITE_MSBYTE (40 R111). -/
  | writeMsbyte (addr : Byte) (data : BitVec 16)
  /-- WRITE_LSBYTE (40 R112). -/
  | writeLsbyte (addr : Byte) (data : BitVec 16)
  /-- SET_HWORD (40 R113). -/
  | setHword (addr : Byte) (data : BitVec 16)
  /-- CLEAR_HWORD (40 R114). -/
  | clearHword (addr : Byte) (data : BitVec 16)
  /-- A frame whose opcode is none of the eight named ones (30 R75). -/
  | unnamedOpcode (opcode addr : Byte) (data : BitVec 16)
  /-- CONFIGURE (43 R200). The range stays a 4-bit index: 9..15 are presented and refused (R81). -/
  | configure (range : BitVec 4) (ref : RefMode) (vrefValid : Bool) (vref : F64)
  /-- SEND_RAW (43 R205). -/
  | sendRaw (opcode addr : Byte) (data : BitVec 16)
  /-- READ_RAW (43 R207). -/
  | readRaw
  /-- READ_SCALED (43 R209). -/
  | readScaled
  /-- The reserved request code 100 (43 R211). -/
  | reserved100
  /-- The reserved request code 101 (43 R211). -/
  | reserved101
  /-- The reserved request code 110 (43 R211). -/
  | reserved110
  /-- The reserved request code 111 (43 R211). -/
  | reserved111
deriving DecidableEq, Repr

end Sys2Proof
end

