-- ==== Sys2Proof/Config.lean ====
section
/-! DEFINITION. What the spec fixes as constants (00_scope R7), the parameters it leaves open (R8), and the
free value of the model. An opaque constant has no body: nothing can be proved of its value. -/

namespace Sys2Proof.Config

/-- `RANGE_SEL_ADDR = 0x14` (00_scope R7). -/
def rangeSelAddr : Byte := 0x14#8

/-- `FULL_SCALE = 65535` as a binary64 number (00_scope R7). -/
def fullScale : F64 := 0x40EFFFE000000000#64

/-- `MIDSCALE = 32767.5` as a binary64 number (00_scope R7). -/
def midscale : F64 := 0x40DFFFE000000000#64

/-- `VREF_INTERNAL`: the binary64 number nearest 4.096 (00_scope R7, 92 D8). -/
def vrefInternal : F64 := 0x4010624DD2F1A9FC#64

/-- `RANGE_CODE`: the device's bit pattern of each range, OPEN (00_scope R8, 92 D2; log 7). -/
opaque rangeCode : InputRange → BitVec 16

/-- `REF_CODE`: the device's bit pattern of each reference mode, OPEN (00_scope R8, 92 D3; log 7). -/
opaque refCode : RefMode → BitVec 16

/-- `MAX_ATTEMPTS` less one: any natural number (log 8). -/
opaque retries : Nat

/-- `MAX_ATTEMPTS`, a natural number ≥ 1, OPEN (00_scope R8, 92 D10; log 8). -/
def maxAttempts : Nat := retries + 1

/-- `T_SETTLE` less one, in the environment's unit of time: any natural number (log 9). -/
opaque settleLess1 : Nat

/-- `T_SETTLE`, a duration > 0, OPEN (00_scope R8, 92 D11; log 9). -/
def tSettle : Nat := settleLess1 + 1

/-- FREE VALUE: the sign and payload of the NaN an operation on these two operands delivers. IEEE 754 leaves
them open, and no rule of the spec reaches one (42 R180(e); log 13). -/
opaque freeNaN : F64 → F64 → F64

end Sys2Proof.Config
end

