-- ==== Sys2Proof/Machine/Codec.lean ====
section
/-! DEFINITION. The Command Frame Codec (40_frame_codec): two pure functions on frames. -/

namespace Sys2Proof.Machine

/-- `encode(opcode, addr, data)` of 40 R100: byte 0 the opcode, byte 1 the address, bytes 2 and 3 the data
word, high byte first. -/
def codecEncode (opcode addr : Byte) (data : BitVec 16) : Frame :=
  { f0 := opcode, f1 := addr, f2 := data.extractLsb' 8 8, f3 := data.extractLsb' 0 8 }

/-- `decode(R)` of 40 R101: `(zext_16(R0) << 8) | zext_16(R1)`; bytes 2 and 3 are not read. -/
def codecDecode (r : Frame) : BitVec 16 :=
  (r.f0.zeroExtend 16 <<< 8) ||| r.f1.zeroExtend 16

/-- The data word a command frame carries in bytes 2 and 3 (30 R71). -/
def frameData (f : Frame) : BitVec 16 := f.f2 ++ f.f3

/-- The opcode values of the named device commands (30 R73). -/
def commandOpcode : DeviceCommand → Byte
  | .nop => 0x00#8
  | .read => 0x48#8
  | .readHword => 0xC8#8
  | .write => 0xD0#8
  | .writeMsbyte => 0xD2#8
  | .writeLsbyte => 0xD4#8
  | .setHword => 0xD8#8
  | .clearHword => 0xC0#8

/-- The named command an opcode byte spells; `none` for the 248 unnamed values (30 R73, R75). -/
def namedCommand? (b : Byte) : Option DeviceCommand :=
  if b = 0x00#8 then some .nop
  else if b = 0x48#8 then some .read
  else if b = 0xC8#8 then some .readHword
  else if b = 0xD0#8 then some .write
  else if b = 0xD2#8 then some .writeMsbyte
  else if b = 0xD4#8 then some .writeLsbyte
  else if b = 0xD8#8 then some .setHword
  else if b = 0xC0#8 then some .clearHword
  else none

end Sys2Proof.Machine
end

