-- ==== Sys2Proof/WellFormed.lean ====
section
/-! DEFINITION. Which terms of Instr are instructions of the table: the one check is that the opcode of an
unnamed-opcode frame is none of the eight named ones (30_encoding R75). Every other combination of operand
values is presented and gets a verdict (R87). -/

namespace Sys2Proof

/-- The check of WellFormed as a Bool: an `unnamedOpcode` frame carries no named opcode (30 R75). -/
def Instr.wellFormed : Instr → Bool
  | .nop _ _ => true
  | .read _ _ => true
  | .readHword _ _ => true
  | .write _ _ => true
  | .writeMsbyte _ _ => true
  | .writeLsbyte _ _ => true
  | .setHword _ _ => true
  | .clearHword _ _ => true
  | .unnamedOpcode opcode _ _ => (Machine.namedCommand? opcode).isNone
  | .configure _ _ _ _ => true
  | .sendRaw _ _ _ => true
  | .readRaw => true
  | .readScaled => true
  | .reserved100 => true
  | .reserved101 => true
  | .reserved110 => true
  | .reserved111 => true

end Sys2Proof
end

