-- ==== Sys2Proof/Decode.lean ====
section
/-! DEFINITION. Decoding what the port presents into an instruction (30_encoding R71, R73, R77-R83), the
byte-level decoder with its named rejections, and the encoder, written from the same tables. Decoding of a
port word is total (R76, R87); only a byte string of the wrong length or with bits set beyond the port's
105 wires is rejected, by name. -/

namespace Sys2Proof

/-- The reference mode a `req_ref` bit selects: 0 Internal, 1 External (30 R82). -/
def refOfBit (b : BitVec 1) : RefMode := if b = 0#1 then .internal else .external

/-- The `req_ref` bit of a reference mode (30 R82). -/
def bitOfRef : RefMode → BitVec 1
  | .internal => 0#1
  | .external => 1#1

/-- A request decoded by its `req_op` (30 R79). The fields an operation does not use are dropped (R77). -/
def decodeRequest (r : Request) : Instr :=
  match r.op.toNat with
  | 0 => .configure r.range (refOfBit r.ref) (r.vrefValid == 1#1) r.vref
  | 1 => .sendRaw r.opcode r.addr r.data
  | 2 => .readRaw
  | 3 => .readScaled
  | 4 => .reserved100
  | 5 => .reserved101
  | 6 => .reserved110
  | _ => .reserved111

/-- A command frame decoded by its byte 0 (30 R71, R73, R75). -/
def decodeCommand (f : Frame) : Instr :=
  match Machine.namedCommand? f.f0 with
  | some .nop => .nop f.f1 (Machine.frameData f)
  | some .read => .read f.f1 (Machine.frameData f)
  | some .readHword => .readHword f.f1 (Machine.frameData f)
  | some .write => .write f.f1 (Machine.frameData f)
  | some .writeMsbyte => .writeMsbyte f.f1 (Machine.frameData f)
  | some .writeLsbyte => .writeLsbyte f.f1 (Machine.frameData f)
  | some .setHword => .setHword f.f1 (Machine.frameData f)
  | some .clearHword => .clearHword f.f1 (Machine.frameData f)
  | none => .unnamedOpcode f.f0 f.f1 (Machine.frameData f)

/-- What the port presents, decoded: total (30 R76, R87). -/
def decodePort : PortWord → Instr
  | .req r => decodeRequest r
  | .cmd f => decodeCommand f

/-- Why a byte string is no port word. -/
inductive DecodeError where
  /-- Neither the 4 bytes of a command frame (30 R70) nor the 14 bytes of a request bundle (log 2). Safe. -/
  | badLength (bytes : Nat)
  /-- A request bundle with a bit set above its 105 wires (log 2). Safe. -/
  | strayBits
deriving DecidableEq, Repr

/-- The 105 wires of the request port as one number, the fields of 30 R77 in the table's order, `req_op` in
bits 2:0. The packing is the model's (log 2). -/
def requestBits (r : Request) : BitVec 105 :=
  r.vref ++ r.vrefValid ++ r.ref ++ r.range ++ r.data ++ r.addr ++ r.opcode ++ r.op

/-- The fields of a request read from its 105 wires (log 2). -/
def requestOfBits (b : BitVec 105) : Request :=
  { op := b.extractLsb' 0 3
    opcode := b.extractLsb' 3 8
    addr := b.extractLsb' 11 8
    data := b.extractLsb' 19 16
    range := b.extractLsb' 35 4
    ref := b.extractLsb' 39 1
    vrefValid := b.extractLsb' 40 1
    vref := b.extractLsb' 41 64 }

/-- The 14 bytes of a request bundle, bits 7:0 first (log 2). -/
def bundleBytes (b : BitVec 112) : List Byte :=
  (List.range 14).map fun i => b.extractLsb' (8 * i) 8

/-- The bundle that 14 bytes hold, the first in bits 7:0 (log 2). -/
def bundleOfBytes : List Byte → BitVec 112
  | [] => 0#112
  | b :: bs => (bundleOfBytes bs <<< 8) ||| b.zeroExtend 112

/-- The port word a byte string stands for: 4 bytes are a command frame, `F0` first (30 R70, R71), 14 bytes a
request bundle (log 2); anything else is rejected by name. -/
def parsePort (bs : List Byte) : Except DecodeError PortWord :=
  match bs with
  | [f0, f1, f2, f3] => .ok (.cmd ⟨f0, f1, f2, f3⟩)
  | _ =>
    if bs.length = 14 then
      if (bundleOfBytes bs).extractLsb' 105 7 = 0#7 then
        .ok (.req (requestOfBits ((bundleOfBytes bs).extractLsb' 0 105)))
      else .error .strayBits
    else .error (.badLength bs.length)

/-- The instruction a byte string holds, or why it holds none. -/
def decodeBytes (bs : List Byte) : Except DecodeError Instr :=
  match parsePort bs with
  | .ok w => .ok (decodePort w)
  | .error e => .error e

/-- The bytes of a word of the opcode table: 32 bits are a command frame, its most significant byte `F0`
first (30 R71); any other width is the low bits of a request bundle, least significant byte first, every bit
above them 0 (log 2). -/
def tableBytes (nbits w : Nat) : List Byte :=
  if nbits = 32 then
    [BitVec.ofNat 8 (w / 2 ^ 24), BitVec.ofNat 8 (w / 2 ^ 16), BitVec.ofNat 8 (w / 2 ^ 8), BitVec.ofNat 8 w]
  else (List.range 14).map fun i => BitVec.ofNat 8 (w % 2 ^ nbits / 2 ^ (8 * i))

/-- The instruction the decoder reads from a word of the opcode table. -/
def decodeTableWord (nbits w : Nat) : Option Instr :=
  match decodeBytes (tableBytes nbits w) with
  | .ok i => some i
  | .error _ => none

/-! ### The encoder -/

/-- A request with every field 0 but its `req_op` (30 R79). -/
def bareRequest (op : BitVec 3) : Request :=
  { op := op, opcode := 0#8, addr := 0#8, data := 0#16, range := 0#4, ref := 0#1, vrefValid := 0#1, vref := 0#64 }

/-- The port word of an instruction (30 R71, R77, R79). Fields the operation does not use are 0. -/
def encodePort : Instr → PortWord
  | .nop a d => .cmd (Machine.codecEncode 0x00#8 a d)
  | .read a d => .cmd (Machine.codecEncode 0x48#8 a d)
  | .readHword a d => .cmd (Machine.codecEncode 0xC8#8 a d)
  | .write a d => .cmd (Machine.codecEncode 0xD0#8 a d)
  | .writeMsbyte a d => .cmd (Machine.codecEncode 0xD2#8 a d)
  | .writeLsbyte a d => .cmd (Machine.codecEncode 0xD4#8 a d)
  | .setHword a d => .cmd (Machine.codecEncode 0xD8#8 a d)
  | .clearHword a d => .cmd (Machine.codecEncode 0xC0#8 a d)
  | .unnamedOpcode o a d => .cmd (Machine.codecEncode o a d)
  | .configure r m vv v =>
    .req { bareRequest 0#3 with range := r, ref := bitOfRef m, vrefValid := BitVec.ofBool vv, vref := v }
  | .sendRaw o a d => .req { bareRequest 1#3 with opcode := o, addr := a, data := d }
  | .readRaw => .req (bareRequest 2#3)
  | .readScaled => .req (bareRequest 3#3)
  | .reserved100 => .req (bareRequest 4#3)
  | .reserved101 => .req (bareRequest 5#3)
  | .reserved110 => .req (bareRequest 6#3)
  | .reserved111 => .req (bareRequest 7#3)

/-- The bytes of a port word: a command frame's four bytes in exchange order (30 R71), or a request bundle's
fourteen (log 2). -/
def portBytes : PortWord → List Byte
  | .cmd f => [f.f0, f.f1, f.f2, f.f3]
  | .req r => bundleBytes (0#7 ++ requestBits r)

/-- The bytes of an instruction. -/
def encodeBytes (i : Instr) : List Byte := portBytes (encodePort i)

end Sys2Proof
end

