-- ==== Sys2Proof/Machine/Binary64.lean ====
section
/-! DEFINITION. IEEE 754 binary64 arithmetic, round to nearest with ties to even (00_scope R13; log 13). Every
finite binary64 number is a whole multiple of 2^-1074, so a finite number is a sign and a natural number of
those units; each operation computes its exact result and rounds once. -/

namespace Sys2Proof.Machine

/-- A binary64 number: not a number, an infinity, or a finite number `±mag · 2^-1074`. -/
inductive F64Class where
  | nan
  | inf (neg : Bool)
  | fin (neg : Bool) (mag : Nat)
deriving DecidableEq, Repr

/-- Bit 63, the sign. -/
def f64Sign (x : F64) : Bool := x.getLsbD 63

/-- Bits 62:52, the biased exponent. -/
def f64Exp (x : F64) : Nat := (x.extractLsb' 52 11).toNat

/-- Bits 51:0, the fraction. -/
def f64Frac (x : F64) : Nat := (x.extractLsb' 0 52).toNat

/-- The number a bit pattern stands for (IEEE 754 binary64). -/
def f64Class (x : F64) : F64Class :=
  if f64Exp x = 2047 then
    if f64Frac x = 0 then .inf (f64Sign x) else .nan
  else if f64Exp x = 0 then .fin (f64Sign x) (f64Frac x)
  else .fin (f64Sign x) ((2 ^ 52 + f64Frac x) * 2 ^ (f64Exp x - 1))

/-- A sign and the lower 63 bits as a bit pattern. -/
def f64Pack (neg : Bool) (low : Nat) : F64 :=
  BitVec.ofNat 64 ((if neg then 2 ^ 63 else 0) + low)

/-- The lower 63 bits of +∞. -/
def f64InfLow : Nat := 2047 * 2 ^ 52

/-- `num / den` rounded to the nearest integer, ties to even. -/
def divRoundEven (num den : Nat) : Nat :=
  if 2 * (num % den) > den ∨ (2 * (num % den) = den ∧ num / den % 2 = 1) then num / den + 1 else num / den

/-- How many units of 2^-1074 lie between neighbouring binary64 numbers around `num / den` units, as a power
of two. -/
def ulpShift (num den : Nat) : Nat := Nat.log2 (num / den) - 52

/-- The lower 63 bits of the binary64 number nearest `num / den` units of 2^-1074, ties to even; beyond the
largest finite number, those of ∞. -/
def roundLow (num den : Nat) : Nat :=
  min f64InfLow (ulpShift num den * 2 ^ 52 + divRoundEven num (den * 2 ^ ulpShift num den))

/-- The exact value `±num / den` units, rounded. -/
def f64Round (neg : Bool) (num den : Nat) : F64 := f64Pack neg (roundLow num den)

/-- A quiet NaN whose sign and payload are free (log 13). -/
def f64NaN (a b : F64) : F64 := 0x7FF8000000000000#64 ||| Config.freeNaN a b

/-- The number with its sign inverted. -/
def f64Neg (x : F64) : F64 := x ^^^ 0x8000000000000000#64

/-- `⊗`: binary64 multiplication (00_scope R13). -/
def f64Mul (a b : F64) : F64 :=
  match f64Class a, f64Class b with
  | .fin s m, .fin t n => f64Round (s ^^ t) (m * n) (2 ^ 1074)
  | .inf s, .inf t => f64Pack (s ^^ t) f64InfLow
  | .inf s, .fin t n => if n = 0 then f64NaN a b else f64Pack (s ^^ t) f64InfLow
  | .fin s m, .inf t => if m = 0 then f64NaN a b else f64Pack (s ^^ t) f64InfLow
  | .nan, _ => f64NaN a b
  | _, .nan => f64NaN a b

/-- `⊘`: binary64 division (00_scope R13). -/
def f64Div (a b : F64) : F64 :=
  match f64Class a, f64Class b with
  | .fin s m, .fin t n =>
    if n = 0 then (if m = 0 then f64NaN a b else f64Pack (s ^^ t) f64InfLow)
    else f64Round (s ^^ t) (m * 2 ^ 1074) n
  | .inf s, .fin t _ => f64Pack (s ^^ t) f64InfLow
  | .fin s _, .inf t => f64Pack (s ^^ t) 0
  | .inf _, .inf _ => f64NaN a b
  | .nan, _ => f64NaN a b
  | _, .nan => f64NaN a b

/-- The signed number of units of a finite number. -/
def signedUnits (neg : Bool) (mag : Nat) : Int := if neg then -(mag : Int) else mag

/-- `⊕`: binary64 addition (00_scope R13); an exact zero is -0 only when both addends are negative. -/
def f64Add (a b : F64) : F64 :=
  match f64Class a, f64Class b with
  | .fin s m, .fin t n =>
    if signedUnits s m + signedUnits t n = 0 then f64Pack (s && t) 0
    else f64Round (decide (signedUnits s m + signedUnits t n < 0)) (signedUnits s m + signedUnits t n).natAbs 1
  | .inf s, .inf t => if s = t then f64Pack s f64InfLow else f64NaN a b
  | .inf s, .fin _ _ => f64Pack s f64InfLow
  | .fin _ _, .inf t => f64Pack t f64InfLow
  | .nan, _ => f64NaN a b
  | _, .nan => f64NaN a b

/-- `⊖`: binary64 subtraction (00_scope R13). -/
def f64Sub (a b : F64) : F64 := f64Add a (f64Neg b)

/-- `toF64(n)` of 00_scope R13 for an unsigned number (every integer of the block is unsigned, R9). -/
def natToF64 (n : Nat) : F64 := f64Round false (n * 2 ^ 1074) 1

/-- The binary64 number nearest the decimal `±digits / 10^places` (30 R85; log 20). -/
def decimalToF64 (neg : Bool) (digits places : Nat) : F64 := f64Round neg (digits * 2 ^ 1074) (10 ^ places)

end Sys2Proof.Machine
end

