-- ==== Sys2Proof/Machine/Operands.lean ====
section
/-! DEFINITION. The operand forms of a request: the range index and its table (30 R81, 42 R170-R173), the
reference voltage (30 R83, 92 D7), and the configuration word (10 R28). -/

namespace Sys2Proof.Machine

/-- The InputRange a 4-bit index names; none for 9..15 (30 R81). -/
def inputRange? (i : BitVec 4) : Option InputRange :=
  match i.toNat with
  | 0 => some .bip3
  | 1 => some .bip2p5
  | 2 => some .bip1p5
  | 3 => some .bip1p25
  | 4 => some .bip0p625
  | 5 => some .uni3
  | 6 => some .uni2p5
  | 7 => some .uni1p5
  | 8 => some .uni1p25
  | _ => none

/-- The port index of a range (30 R81, 42 R170). -/
def rangeIndex : InputRange → BitVec 4
  | .bip3 => 0#4
  | .bip2p5 => 1#4
  | .bip1p5 => 2#4
  | .bip1p25 => 3#4
  | .bip0p625 => 4#4
  | .uni3 => 5#4
  | .uni2p5 => 6#4
  | .uni1p5 => 7#4
  | .uni1p25 => 8#4

/-- `bipolar(i)`: the first five ranges (42 R172). -/
def bipolar : InputRange → Bool
  | .bip3 | .bip2p5 | .bip1p5 | .bip1p25 | .bip0p625 => true
  | .uni3 | .uni2p5 | .uni1p5 | .uni1p25 => false

/-- `span(i)` as a binary64 number: 3, 2.5, 1.5, 1.25 or 0.625 (42 R170, R171). -/
def span : InputRange → F64
  | .bip3 | .uni3 => 0x4008000000000000#64
  | .bip2p5 | .uni2p5 => 0x4004000000000000#64
  | .bip1p5 | .uni1p5 => 0x3FF8000000000000#64
  | .bip1p25 | .uni1p25 => 0x3FF4000000000000#64
  | .bip0p625 => 0x3FE4000000000000#64

/-- `VREF_VALID(v)`: finite and 2^-900 ≤ v ≤ 2^900 (00_scope R8, 92 D7). -/
def vrefValid (v : F64) : Bool :=
  match f64Class v with
  | .fin false m => decide (2 ^ 174 ≤ m) && decide (m ≤ 2 ^ 1974)
  | _ => false

/-- The voltage CONFIGURE loads: `VREF_INTERNAL`, or the supplied one (10 R26, 43 R202). -/
def selectVref (ref : RefMode) (vref : F64) : F64 :=
  match ref with
  | .internal => Config.vrefInternal
  | .external => vref

/-- `RANGE_CODE(range) | REF_CODE(mode)`, the configuration word (10 R28). -/
def commandWord (r : InputRange) (m : RefMode) : BitVec 16 := Config.rangeCode r ||| Config.refCode m

end Sys2Proof.Machine
end

