-- ==== Sys2Proof/Machine/State.lean ====
section
/-! DEFINITION. The state of the block (10_state), the request and the exchange in progress, the block's
inputs as plain data, and the reasons a step can stop. -/

namespace Sys2Proof.Machine

/-- The nine values of `fsm_state` (10 R21). -/
inductive FsmState where
  | uninit
  | cfgWrite | cfgSettle1 | cfgReadReq | cfgNop | cfgSettle2 | cfgCheck | cfgFlush
  | ready
deriving DecidableEq, Repr

/-- The seven values written to `rsp_status` (60 R230); code 7 is never written, so it is no value here. -/
inductive Status where
  | ok | transportInitError | configurationError | configurationTimeout
  | invalidConfiguration | invalidRequest | notReady
deriving DecidableEq, Repr

/-- What an operation waiting for its exchange does with the decoded value: deliver it (SEND_RAW, READ_RAW)
or scale it too (READ_SCALED) (43 R205, R207, R209). -/
inductive HostOp where
  | raw | scaled
deriving DecidableEq, Repr

/-- One turn of the environment or of the block (00_scope R17; log 3). -/
inductive Turn where
  /-- The block moves. -/
  | block
  /-- The caller presents a request (30 R80). -/
  | caller (w : PortWord)
  /-- The transport agent returns a response frame (60 R245). -/
  | transport (rx : Frame)
  /-- The environment signals the time elapsed since the exchange before the settle wait (60 R250). -/
  | settle (elapsed : Nat)
  /-- The input `xport_status` takes a value (30 R84). -/
  | xport (status : BitVec 2)
  /-- The reset event (70 R270). -/
  | reset
deriving DecidableEq, Repr

/-- Why a step faults: for no reason. The block has no traps (60 R230, R236: an error is a status in the response
registers), and every register holds a value after reset, so this type has no constructor (log 5). -/
inductive Fault where
deriving DecidableEq, Repr

/-- Why a step is refused. -/
inductive Refusal where
  /-- An instruction with no meaning yet, raised by exec's arm of that name. Safe. -/
  | notModelled (mnemonic : String)
deriving DecidableEq, Repr

/-- The state. Field names are the spec's register names in camel case. -/
structure State where
  /-- `fsm_state` (10 R21). -/
  fsm : FsmState
  /-- `cfg_valid` (10 R23). -/
  cfgValid : Bool
  /-- `cfg_range`, 4 bits, legal 0..8 (10 R24). -/
  cfgRange : BitVec 4
  /-- `cfg_ref` (10 R25). -/
  cfgRef : RefMode
  /-- `cfg_vref` (10 R26). -/
  cfgVref : F64
  /-- `cmd` (10 R28). -/
  cmd : BitVec 16
  /-- Whether the four configuration registers hold a value since reset (10 R35, R36; log 5). -/
  cfgPresent : Bool
  /-- `got` (10 R29). -/
  got : BitVec 16
  /-- Whether `got` holds a value since reset (10 R35, R36; log 5). -/
  gotPresent : Bool
  /-- `attempt` (10 R30). -/
  attempt : Nat
  /-- `rsp_status` (10 R31). -/
  rspStatus : Status
  /-- `rsp_cause` (10 R31). -/
  rspCause : BitVec 2
  /-- `rsp_value` (10 R31). -/
  rspValue : BitVec 16
  /-- `rsp_volts` (10 R31). -/
  rspVolts : F64
  /-- Whether the response registers hold a value since reset (10 R35, R36; log 5). -/
  rspPresent : Bool
  /-- `rsp_valid`: a request completed in the last step (30 R80, 43 R212). -/
  rspValid : Bool
  /-- `tx_valid` and `tx_frame`: the frame of the exchange in progress (30 R84). -/
  tx : Option Frame
  /-- The operation other than CONFIGURE that is in progress (30 R80; 70 R270). -/
  hostOp : Option HostOp
  /-- The requests presented and not yet accepted, oldest first (30 R80; log 4). -/
  requests : List PortWord
  /-- The input `xport_status` (30 R84). -/
  xportStatus : BitVec 2
  /-- The model's own field: the coming turns of the environment (log 3). -/
  agenda : List Turn
deriving DecidableEq, Repr

/-- The state right after power-on (10 R35, 70 R270, R271). The values of absent registers are the model's
(log 5), as are `xport_status` (log 6) and the empty agenda (log 3). -/
def State.reset : State :=
  { fsm := .uninit
    cfgValid := false
    cfgRange := 0#4
    cfgRef := .internal
    cfgVref := 0#64
    cmd := 0#16
    cfgPresent := false
    got := 0#16
    gotPresent := false
    attempt := 0
    rspStatus := .ok
    rspCause := 0#2
    rspValue := 0#16
    rspVolts := 0#64
    rspPresent := false
    rspValid := false
    tx := none
    hostOp := none
    requests := []
    xportStatus := 0#2
    agenda := [] }

end Sys2Proof.Machine
end

