-- ==== Sys2Proof/Machine/Flags.lean ====
section
/-! DEFINITION. Status and cause codes (60 R230, R231), the checks that reject a request and their order
(60 R234, 43 R201), and the response port (30 R78). The block has no other flags (10 R32). -/

namespace Sys2Proof.Machine

/-- The 3-bit code of a status (60 R230). -/
def statusCode : Status → BitVec 3
  | .ok => 0#3
  | .transportInitError => 1#3
  | .configurationError => 2#3
  | .configurationTimeout => 3#3
  | .invalidConfiguration => 4#3
  | .invalidRequest => 5#3
  | .notReady => 6#3

/-- Check 4 of 60 R234: `xport_status` 1 or 3 is TRANSPORT_INIT_ERROR, 2 is CONFIGURATION_ERROR, 0 passes. -/
def transportVerdict (xportStatus : BitVec 2) : Option Status :=
  if xportStatus = 1#2 ∨ xportStatus = 3#2 then some .transportInitError
  else if xportStatus = 2#2 then some .configurationError
  else none

/-- The field checks of CONFIGURE in the order of 43 R201: the cause of INVALID_CONFIGURATION, or the range the
request names. With the Internal reference the voltage fields are not examined. -/
def configureVerdict (range : BitVec 4) (ref : RefMode) (vrefSupplied : Bool) (vref : F64) :
    Except (BitVec 2) InputRange :=
  match inputRange? range with
  | none => .error 0#2
  | some r =>
    match ref with
    | .internal => .ok r
    | .external =>
      if vrefSupplied = false then .error 1#2
      else if vrefValid vref = false then .error 3#2
      else .ok r

/-- What the caller reads at the response port (30 R78): the four fields with their codes, or nothing while the
response registers are absent (10 R35), and `rsp_valid`. -/
structure ResponsePort where
  status : BitVec 3
  cause : BitVec 2
  value : BitVec 16
  volts : F64
deriving DecidableEq, Repr

/-- The response port of a state (30 R78). -/
def responsePort (s : State) : Option ResponsePort :=
  if s.rspPresent then
    some { status := statusCode s.rspStatus, cause := s.rspCause, value := s.rspValue, volts := s.rspVolts }
  else none

end Sys2Proof.Machine
end

