-- ==== Sys2Proof/Machine/Scaling.lean ====
section
/-! DEFINITION. The Scaling Engine (42_scaling_engine): a pure function of the raw code, the range and the
reference voltage (R179). -/

namespace Sys2Proof.Machine

/-- Stage 1 of 42 R174: `(vref ⊗ span(i)) ⊘ 65535.0`, doubled for a bipolar range. -/
def scaleFactor (r : InputRange) (vref : F64) : F64 :=
  if bipolar r then f64Mul (f64Div (f64Mul vref (span r)) Config.fullScale) 0x4000000000000000#64
  else f64Div (f64Mul vref (span r)) Config.fullScale

/-- Stage 2 of 42 R174: the raw code, recentered by 32767.5 for a bipolar range. -/
def adjustedRaw (raw : BitVec 16) (r : InputRange) : F64 :=
  if bipolar r then f64Sub (natToF64 raw.toNat) Config.midscale else natToF64 raw.toNat

/-- `scale(raw, i, vref) = adj ⊗ s` (42 R174). -/
def scale (raw : BitVec 16) (r : InputRange) (vref : F64) : F64 :=
  f64Mul (adjustedRaw raw r) (scaleFactor r vref)

end Sys2Proof.Machine
end

