-- ==== Sys2Proof/Machine/Ops.lean ====
section
/-! DEFINITION. The named operations over the state that every meaning uses: busy and holds (10 R22, 30 R80),
starting an exchange (40 R105), completing a request (43 R212), and `raise` (60 R236). The block has no memory, so there are no memory operations (00_scope R12). -/

namespace Sys2Proof.Machine

/-- The block is busy exactly in the seven CFG_* states (10 R22). -/
def fsmBusy : FsmState → Bool
  | .uninit | .ready => false
  | .cfgWrite | .cfgSettle1 | .cfgReadReq | .cfgNop | .cfgSettle2 | .cfgCheck | .cfgFlush => true

/-- A request is in progress: the block is busy, or an earlier operation or exchange has not ended (30 R80,
20 R59). Then no request is accepted. -/
def State.occupied (s : State) : Bool := fsmBusy s.fsm || s.hostOp.isSome || s.tx.isSome

/-- A request that is not accepted holds: it stays presented, ahead of later ones (30 R80). -/
def State.hold (i : Instr) (s : State) : State := { s with requests := encodePort i :: s.requests }

/-- `Exchange(tx)` begins: the frame is on the transport interface, and the block holds until the transport
agent returns (40 R105, 30 R84). `op` is the operation that waits, none for the sequencer. -/
def State.startExchange (tx : Frame) (op : Option HostOp) (s : State) : State :=
  { s with tx := some tx, hostOp := op }

/-- A request completes: the four response registers are written together, `rsp_valid` is 1, and no exchange
or operation is in progress (10 R31, 43 R212). -/
def State.respond (status : Status) (cause : BitVec 2) (value : BitVec 16) (volts : F64) (s : State) : State :=
  { s with
    rspStatus := status, rspCause := cause, rspValue := value, rspVolts := volts
    rspPresent := true, rspValid := true, tx := none, hostOp := none }

/-- The effect of a status beyond the response (60 R236): a timeout clears `cfg_valid` and goes to UNINIT,
every other status changes nothing. -/
def State.statusEffect (status : Status) (s : State) : State :=
  match status with
  | .configurationTimeout => { s with cfgValid := false, fsm := .uninit }
  | .ok | .transportInitError | .configurationError | .invalidConfiguration | .invalidRequest | .notReady => s

/-- `raise S(cause)` (60 R236): the block's taking of an exception. It ends the request: status and cause
written, `rsp_value` 0, `rsp_volts` +0.0, and the status's effect. There is no saved state, no handler and no
return from it (60 R237): the next request is processed from the state it leaves. -/
def State.raise (status : Status) (cause : BitVec 2) (s : State) : State :=
  (s.statusEffect status).respond status cause 0#16 0#64

/-- Every step begins here: `rsp_valid` is 1 for one step only (30 R80; log 11), and the turn taken leaves the
agenda. -/
def State.beginStep (s : State) : State := { s with rspValid := false, agenda := s.agenda.tail }

/-- Whose turn it is: the agenda's first, the block's when the agenda is empty (log 3). -/
def State.turn (s : State) : Turn := s.agenda.headD .block

/-- The request port: the oldest request presented, taken off the port, when the block can accept one
(30 R80). -/
def State.fetch (s : State) : Option (PortWord × State) :=
  if s.occupied then none
  else
    match s.requests with
    | [] => none
    | w :: ws => some (w, { s with requests := ws })

/-- Every block register at its reset value, the request in progress and its exchange abandoned; the block's
inputs are not the block's to reset (70 R270; log 4, log 6). -/
def State.resetBlock (s : State) : State :=
  { State.reset with requests := s.requests, xportStatus := s.xportStatus, agenda := s.agenda }

end Sys2Proof.Machine
end

