-- ==== Sys2Proof/Machine/DeviceCommands.lean ====
section
/-! DEFINITION. The block's way to the device: `xfer` begun for a caller (40 R105), and one meaning for each
row of format CMD32, the SEND_RAW that its frame stands for (30 R75, R86; 40 R107-R114; 43 R205). -/

namespace Sys2Proof.Machine

/-- A request that is checked against the transport and then sends one frame (43 R205, R207, R209): the
transport statuses reject it (60 R234, check 4); otherwise `xfer` begins and the operation waits. -/
def sendChecked (opcode addr : Byte) (data : BitVec 16) (op : HostOp) (s : State) : State :=
  match transportVerdict s.xportStatus with
  | some st => s.raise st 0#2
  | none => s.startExchange (codecEncode opcode addr data) (some op)

/-- A request presented: it holds while another is in progress, and is accepted otherwise (30 R80). -/
def acceptOrHold (i : Instr) (accept : State → State) (s : State) : Host.Outcome State Fault Refusal :=
  if s.occupied then .next (s.hold i) else .next (accept s)

/-- NOP addr, data (40 R107). -/
def execNop (a : Byte) (d : BitVec 16) (s : State) : Host.Outcome State Fault Refusal :=
  acceptOrHold (.nop a d) (sendChecked (commandOpcode .nop) a d .raw) s

/-- READ addr, data (40 R108). -/
def execRead (a : Byte) (d : BitVec 16) (s : State) : Host.Outcome State Fault Refusal :=
  acceptOrHold (.read a d) (sendChecked (commandOpcode .read) a d .raw) s

/-- READ_HWORD addr, data (40 R109). -/
def execReadHword (a : Byte) (d : BitVec 16) (s : State) : Host.Outcome State Fault Refusal :=
  acceptOrHold (.readHword a d) (sendChecked (commandOpcode .readHword) a d .raw) s

/-- WRITE addr, data (40 R110). -/
def execWrite (a : Byte) (d : BitVec 16) (s : State) : Host.Outcome State Fault Refusal :=
  acceptOrHold (.write a d) (sendChecked (commandOpcode .write) a d .raw) s

/-- WRITE_MSBYTE addr, data (40 R111). -/
def execWriteMsbyte (a : Byte) (d : BitVec 16) (s : State) : Host.Outcome State Fault Refusal :=
  acceptOrHold (.writeMsbyte a d) (sendChecked (commandOpcode .writeMsbyte) a d .raw) s

/-- WRITE_LSBYTE addr, data (40 R112). -/
def execWriteLsbyte (a : Byte) (d : BitVec 16) (s : State) : Host.Outcome State Fault Refusal :=
  acceptOrHold (.writeLsbyte a d) (sendChecked (commandOpcode .writeLsbyte) a d .raw) s

/-- SET_HWORD addr, data (40 R113). -/
def execSetHword (a : Byte) (d : BitVec 16) (s : State) : Host.Outcome State Fault Refusal :=
  acceptOrHold (.setHword a d) (sendChecked (commandOpcode .setHword) a d .raw) s

/-- CLEAR_HWORD addr, data (40 R114). -/
def execClearHword (a : Byte) (d : BitVec 16) (s : State) : Host.Outcome State Fault Refusal :=
  acceptOrHold (.clearHword a d) (sendChecked (commandOpcode .clearHword) a d .raw) s

/-- A frame with an unnamed opcode: shaped and sent like any other, no status raised (30 R75). -/
def execUnnamedOpcode (o a : Byte) (d : BitVec 16) (s : State) : Host.Outcome State Fault Refusal :=
  acceptOrHold (.unnamedOpcode o a d) (sendChecked o a d .raw) s

end Sys2Proof.Machine
end

