-- ==== Sys2Proof/Machine/BlockOperations.lean ====
section
/-! DEFINITION. The operations of the request port (43_block_operations): CONFIGURE, SEND_RAW, READ_RAW,
READ_SCALED and the reserved codes, from acceptance to the point where the request ends or holds. -/

namespace Sys2Proof.Machine

/-- The load of an accepted CONFIGURE, all in one step (43 R202). -/
def State.loadConfiguration (range : BitVec 4) (r : InputRange) (ref : RefMode) (vref : F64) (s : State) : State :=
  { s with
    cfgRange := range, cfgRef := ref, cfgVref := selectVref ref vref, cmd := commandWord r ref
    cfgPresent := true, cfgValid := true, attempt := 0, fsm := .cfgWrite }

/-- CONFIGURE accepted: the field checks, then the transport checks, then the load (43 R201, R202). -/
def configureAccepted (range : BitVec 4) (ref : RefMode) (vrefSupplied : Bool) (vref : F64) (s : State) : State :=
  match configureVerdict range ref vrefSupplied vref with
  | .error cause => s.raise .invalidConfiguration cause
  | .ok r =>
    match transportVerdict s.xportStatus with
    | some st => s.raise st 0#2
    | none => s.loadConfiguration range r ref vref

/-- A sampling request: NOT_READY outside READY, before the transport checks (43 R207, R209; 60 R234); then the
NOP frame `00 00 00 00`. -/
def sampleAccepted (op : HostOp) (s : State) : State :=
  if s.fsm = .ready then sendChecked (commandOpcode .nop) 0x00#8 0x0000#16 op s
  else s.raise .notReady 0#2

/-- CONFIGURE (43 R200-R204). -/
def execConfigure (range : BitVec 4) (ref : RefMode) (vrefSupplied : Bool) (vref : F64) (s : State) :
    Host.Outcome State Fault Refusal :=
  acceptOrHold (.configure range ref vrefSupplied vref) (configureAccepted range ref vrefSupplied vref) s

/-- SEND_RAW (43 R205, R206). -/
def execSendRaw (o a : Byte) (d : BitVec 16) (s : State) : Host.Outcome State Fault Refusal :=
  acceptOrHold (.sendRaw o a d) (sendChecked o a d .raw) s

/-- READ_RAW (43 R207, R208). -/
def execReadRaw (s : State) : Host.Outcome State Fault Refusal :=
  acceptOrHold .readRaw (sampleAccepted .raw) s

/-- READ_SCALED (43 R209, R210). -/
def execReadScaled (s : State) : Host.Outcome State Fault Refusal :=
  acceptOrHold .readScaled (sampleAccepted .scaled) s

/-- The reserved request code 100: INVALID_REQUEST (43 R211). -/
def execReserved100 (s : State) : Host.Outcome State Fault Refusal :=
  acceptOrHold .reserved100 (State.raise .invalidRequest 0#2) s

/-- The reserved request code 101: INVALID_REQUEST (43 R211). -/
def execReserved101 (s : State) : Host.Outcome State Fault Refusal :=
  acceptOrHold .reserved101 (State.raise .invalidRequest 0#2) s

/-- The reserved request code 110: INVALID_REQUEST (43 R211). -/
def execReserved110 (s : State) : Host.Outcome State Fault Refusal :=
  acceptOrHold .reserved110 (State.raise .invalidRequest 0#2) s

/-- The reserved request code 111: INVALID_REQUEST (43 R211). -/
def execReserved111 (s : State) : Host.Outcome State Fault Refusal :=
  acceptOrHold .reserved111 (State.raise .invalidRequest 0#2) s

end Sys2Proof.Machine
end

