-- ==== Sys2Proof/Machine/Dispatch.lean ====
section
/-! DEFINITION. One arm per instruction, each a direct call of its meaning. -/

namespace Sys2Proof.Machine

def exec (i : Instr) (s : State) : Host.Outcome State Fault Refusal :=
  match i with
  | .nop a d => Sys2Proof.Machine.execNop a d s
  | .read a d => Sys2Proof.Machine.execRead a d s
  | .readHword a d => Sys2Proof.Machine.execReadHword a d s
  | .write a d => Sys2Proof.Machine.execWrite a d s
  | .writeMsbyte a d => Sys2Proof.Machine.execWriteMsbyte a d s
  | .writeLsbyte a d => Sys2Proof.Machine.execWriteLsbyte a d s
  | .setHword a d => Sys2Proof.Machine.execSetHword a d s
  | .clearHword a d => Sys2Proof.Machine.execClearHword a d s
  | .unnamedOpcode o a d => Sys2Proof.Machine.execUnnamedOpcode o a d s
  | .configure range ref vv vref => Sys2Proof.Machine.execConfigure range ref vv vref s
  | .sendRaw o a d => Sys2Proof.Machine.execSendRaw o a d s
  | .readRaw => Sys2Proof.Machine.execReadRaw s
  | .readScaled => Sys2Proof.Machine.execReadScaled s
  | .reserved100 => Sys2Proof.Machine.execReserved100 s
  | .reserved101 => Sys2Proof.Machine.execReserved101 s
  | .reserved110 => Sys2Proof.Machine.execReserved110 s
  | .reserved111 => Sys2Proof.Machine.execReserved111 s

end Sys2Proof.Machine
end

