-- ==== Sys2Proof/Machine/Sequencer.lean ====
section
/-! DEFINITION. The Device Configuration Sequencer (41_config_sequencer) and what the environment's turns do:
the block's own actions in each `fsm_state`, the transport agent's return (60 R245), the settle signal
(60 R250), and a request presented (30 R80). -/

namespace Sys2Proof.Machine

/-- CFG_WRITE begins (41 R133): the iteration is counted and the WRITE of `cmd` to 0x14 goes out.
Where no CONFIGURE has written `cmd` (unreachable, 10 R36) its value is taken as it stands (log 5). -/
def cfgWriteAction (s : State) : State :=
  { s with attempt := s.attempt + 1 }.startExchange (codecEncode (commandOpcode .write) Config.rangeSelAddr s.cmd) none

/-- CFG_CHECK (41 R138, R140) against an attempt bound: exact comparison; on a match to CFG_FLUSH, else to
CFG_WRITE while attempts are left, else ConfigurationTimeout. `got` and `cmd` are taken as they stand (log 5). -/
def cfgCheckAction (bound : Nat) (s : State) : State :=
  if s.got = s.cmd then { s with fsm := .cfgFlush }
  else if s.attempt < bound then { s with fsm := .cfgWrite }
  else s.raise .configurationTimeout 0#2

/-- What the block does on its turn when it accepts no request (41 R132): it holds while an exchange is in
progress, in a settle state, and when there is nothing to do (70 R271); otherwise it takes the sequencer's
action. -/
def sequencerAction (s : State) : State :=
  match s.tx with
  | some _ => s
  | none =>
    match s.fsm with
    | .uninit => s
    | .cfgWrite => cfgWriteAction s
    | .cfgSettle1 => s
    | .cfgReadReq => s.startExchange (codecEncode (commandOpcode .readHword) Config.rangeSelAddr 0x0000#16) none
    | .cfgNop => s.startExchange (codecEncode (commandOpcode .nop) 0x00#8 0x0000#16) none
    | .cfgSettle2 => s
    | .cfgCheck => cfgCheckAction Config.maxAttempts s
    | .cfgFlush => s.startExchange (codecEncode (commandOpcode .nop) 0x00#8 0x0000#16) none
    | .ready => s

/-- `zext_16(attempt)`, saturating at 65535 (41 R139). -/
def attemptValue (attempt : Nat) : BitVec 16 := BitVec.ofNat 16 (min attempt 65535)

/-- The range the scaling engine runs on: that of a configuration with `cfg_valid = 1` and `cfg_range` ≤ 8 (42 R177).
An absent configuration (10 R36) is none, so the engine never takes a reset value for one (log 5). -/
def engineRange? (s : State) : Option InputRange :=
  if s.cfgValid && s.cfgPresent then inputRange? s.cfgRange else none

/-- READ_SCALED after its exchange (43 R209): the engine's invariant check (42 R177), then the voltage. -/
def completeScaled (raw : BitVec 16) (s : State) : State :=
  match engineRange? s with
  | some r => s.respond .ok 0#2 raw (scale raw r s.cfgVref)
  | none => s.raise .invalidConfiguration 2#2

/-- The exchange of a caller's operation completes with a decoded value (43 R205, R207, R209). With no
operation waiting (unreachable) the exchange just ends (log 12). -/
def completeHostOp (value : BitVec 16) (s : State) : State :=
  match s.hostOp with
  | none => { s with tx := none }
  | some .raw => s.respond .ok 0#2 value 0#64
  | some .scaled => completeScaled value s

/-- The exchange in progress completes with a response frame (40 R105): what the decoded value does depends on
the state that holds for it (41 R133, R135, R136, R139). The states that make no exchange (unreachable here)
just end it (log 12). -/
def completeExchange (rx : Frame) (s : State) : State :=
  match s.fsm with
  | .uninit => completeHostOp (codecDecode rx) s
  | .ready => completeHostOp (codecDecode rx) s
  | .cfgWrite => { s with tx := none, fsm := .cfgSettle1 }
  | .cfgReadReq => { s with tx := none, fsm := .cfgNop }
  | .cfgNop => { s with tx := none, got := codecDecode rx, gotPresent := true, fsm := .cfgSettle2 }
  | .cfgFlush => { s with fsm := .ready }.respond .ok 0#2 (attemptValue s.attempt) 0#64
  | .cfgSettle1 => { s with tx := none }
  | .cfgSettle2 => { s with tx := none }
  | .cfgCheck => { s with tx := none }

/-- The transport agent returns a frame (60 R245): it completes the exchange in progress; with none in progress
the block takes no notice (log 10). -/
def transportReturn (rx : Frame) (s : State) : State :=
  match s.tx with
  | none => s
  | some _ => completeExchange rx s

/-- The settle signal (60 R250) for an interval `bound`: it lifts the hold of CFG_SETTLE1 and CFG_SETTLE2
(41 R134, R137) once at least that time has elapsed since the exchange; nothing else notices it (log 9). -/
def settleSignal (bound elapsed : Nat) (s : State) : State :=
  if bound ≤ elapsed then
    match s.tx, s.fsm with
    | none, .cfgSettle1 => { s with fsm := .cfgReadReq }
    | none, .cfgSettle2 => { s with fsm := .cfgCheck }
    | _, _ => s
  else s

/-- A caller presents a request: it waits at the port behind those presented before it (30 R80; log 4). -/
def State.present (w : PortWord) (s : State) : State := { s with requests := s.requests ++ [w] }

end Sys2Proof.Machine
end

