-- ==== Sys2Proof/Machine/Step.lean ====
section
/-! DEFINITION. One step: the turn at the head of the agenda, the block's when there is none (log 3). -/

namespace Sys2Proof.Machine

/-- The block's turn: it accepts the request at the port if it can, else takes the sequencer's action. -/
def blockTurn (s : State) : Host.Outcome State Fault Refusal :=
  match s.fetch with
  | some (w, s') => exec (decodePort w) s'
  | none => .next (sequencerAction s)

/-- One step of the machine: one turn of one agent (00_scope R17; log 3). -/
def step (s : State) : Host.Outcome State Fault Refusal :=
  match s.turn with
  | .block => blockTurn s.beginStep
  | .caller w => .next (s.beginStep.present w)
  | .transport rx => .next (transportReturn rx s.beginStep)
  | .settle elapsed => .next (settleSignal Config.tSettle elapsed s.beginStep)
  | .xport status => .next { s.beginStep with xportStatus := status }
  | .reset => .next s.beginStep.resetBlock

/-- The state with an instruction of the opcode table presented at the request port, ahead of any other
request, and the block's turn next (log 16). The block accepts it only when no request is in progress (30 R80),
so one in progress is taken out; a state with none keeps every other field. -/
def State.withFetchWord (s : State) (nbits w : Nat) : State :=
  match parsePort (tableBytes nbits w) with
  | .ok p =>
    { s with
      requests := p :: s.requests, agenda := .block :: s.agenda
      tx := none, hostOp := none, fsm := if fsmBusy s.fsm then .uninit else s.fsm }
  | .error _ => s

end Sys2Proof.Machine
end

