-- ==== Sys2Proof/Machine/Assembly.lean ====
section
/-! DEFINITION. The request syntax of 30 R85 as abstract syntax, and the request each line stands for, the
pseudo-operations of R86 among them (log 20, log 21). -/

namespace Sys2Proof.Machine

/-- A range operand: a name, or `#<index>` for a raw `req_range` value (30 R85). -/
inductive RangeArg where
  | named (r : InputRange)
  | index (i : BitVec 4)
deriving DecidableEq, Repr

/-- A voltage operand: a decimal `±digits / 10^places`, or 16 hex digits (30 R85). -/
inductive VrefArg where
  | decimal (neg : Bool) (digits places : Nat)
  | bits (v : F64)
deriving DecidableEq, Repr

/-- An opcode operand: a mnemonic of R73, or two hex digits (30 R85). -/
inductive OpcodeArg where
  | mnemonic (c : DeviceCommand)
  | hex (b : Byte)
deriving DecidableEq, Repr

/-- A line of the request syntax (30 R85), or a device-command shorthand with its operands where written
(R86). -/
inductive AsmLine where
  | configure (range : RangeArg) (ref : RefMode) (vref : Option VrefArg)
  | sendRaw (opcode : OpcodeArg) (addr : Byte) (data : BitVec 16)
  | readRaw
  | readScaled
  | device (c : DeviceCommand) (addr : Option Byte) (data : Option (BitVec 16))
deriving DecidableEq, Repr

/-- The `req_range` value of a range operand. -/
def asmRange : RangeArg → BitVec 4
  | .named r => rangeIndex r
  | .index i => i

/-- The opcode byte of an opcode operand. -/
def asmOpcode : OpcodeArg → Byte
  | .mnemonic c => commandOpcode c
  | .hex b => b

/-- The voltage of a voltage operand. -/
def asmVref : VrefArg → F64
  | .decimal neg digits places => decimalToF64 neg digits places
  | .bits v => v

/-- The SEND_RAW request of three fields (30 R77, R79). -/
def sendRawRequest (opcode addr : Byte) (data : BitVec 16) : Request :=
  { bareRequest 1#3 with opcode := opcode, addr := addr, data := data }

/-- The request a line stands for (30 R85, R86): no voltage written means `req_vref_valid = 0`; a device
command's missing operands are 0x00 and 0x0000. -/
def assemble : AsmLine → Request
  | .configure range ref none => { bareRequest 0#3 with range := asmRange range, ref := bitOfRef ref }
  | .configure range ref (some v) =>
    { bareRequest 0#3 with range := asmRange range, ref := bitOfRef ref, vrefValid := 1#1, vref := asmVref v }
  | .sendRaw o a d => sendRawRequest (asmOpcode o) a d
  | .readRaw => bareRequest 2#3
  | .readScaled => bareRequest 3#3
  | .device c a d => sendRawRequest (commandOpcode c) (a.getD 0x00#8) (d.getD 0x0000#16)

end Sys2Proof.Machine
end

