-- ==== Sys2Proof/Machine/Transports.lean ====
section
/-! DEFINITION. The test transports of 60 R248 and R249: environments beside the block, with which the source's
testable properties are stated. They are no part of the block, and no rule of it rests on them (log 17). -/

namespace Sys2Proof.Machine

/-- The frame that carries a 16-bit value in bytes 0 and 1, and 0x00 in bytes 2 and 3 (60 R248, R249). -/
def valueFrame (v : BitVec 16) : Frame :=
  { f0 := v.extractLsb' 8 8, f1 := v.extractLsb' 0 8, f2 := 0x00#8, f3 := 0x00#8 }

/-- A test transport with the values it holds. In `converge` and `never`, `written` is the content of register 0x14, the
data of the last WRITE to it, and `latch` the result the next transfer returns. What the spec leaves open is an argument (log 17):
`mask` makes the value read back instead of the written one, `written ^^^ mask`, another value whenever the mask
is not 0; `sample` is the result of a NOP, the device's current latched value (60 R247; 70 R274: not the
range-select register); `other` is the result of every frame of which R247 says nothing. -/
inductive TestTransport where
  /-- LOOP: echoes the previous frame's bytes 0 and 1 (60 R248). -/
  | loop (latch : BitVec 16)
  /-- FIXED(v): returns the same value on every exchange (60 R249). -/
  | fixed (v : BitVec 16)
  /-- CONVERGE(k): register 0x14 reports the written value from iteration k of a CONFIGURE on (60 R249). -/
  | converge (k : Nat) (mask sample other written latch : BitVec 16)
  /-- NEVER: register 0x14 never reports the written value (60 R249). -/
  | never (mask sample other written latch : BitVec 16)
deriving DecidableEq, Repr

/-- The frame is a WRITE to register 0x14. -/
def isRangeWrite (tx : Frame) : Bool := tx.f0 = commandOpcode .write && tx.f1 = Config.rangeSelAddr

/-- The frame is a READ_HWORD of register 0x14. -/
def isRangeRead (tx : Frame) : Bool := tx.f0 = commandOpcode .readHword && tx.f1 = Config.rangeSelAddr

/-- The result a device with register 0x14 holds ready after a frame (60 R247): the register's content, `reading`,
after a READ_HWORD of it, the current latched value after a NOP, and a value the spec leaves open after any other
frame (log 17). -/
def deviceResult (reading sample other : BitVec 16) (tx : Frame) : BitVec 16 :=
  if isRangeRead tx then reading else if tx.f0 = commandOpcode .nop then sample else other

/-- The response to a frame: the value held from before it (60 R248, R249; the one-transfer latency of 40 R106). -/
def TestTransport.respond : TestTransport → Frame
  | .loop latch => valueFrame latch
  | .fixed v => valueFrame v
  | .converge _ _ _ _ _ latch => valueFrame latch
  | .never _ _ _ _ latch => valueFrame latch

/-- The content of register 0x14 after a frame (60 R249). DESIGN CHOICE (log 17): WRITE alone changes it. What
WRITE_MSBYTE, WRITE_LSBYTE, SET_HWORD, CLEAR_HWORD or an unnamed opcode to 0x14 does to it is open (40 R111-R114,
20 R61; 91 N5, 93 U3), and here they leave it as it is. -/
def registerAfter (tx : Frame) (written : BitVec 16) : BitVec 16 :=
  if isRangeWrite tx then frameData tx else written

/-- The transport after a frame, sent while the block's `attempt` (10 R30) is `iteration`: the iterations begun by the
CONFIGURE in progress, or by the last one (60 R248, R249). So CONVERGE(k) begins anew with every CONFIGURE. What the
spec leaves open of the results and of register 0x14's content is the model's (log 17). -/
def TestTransport.after (iteration : Nat) (tx : Frame) : TestTransport → TestTransport
  | .loop _ => .loop (tx.f0 ++ tx.f1)
  | .fixed v => .fixed v
  | .converge k mask sample other written _ =>
    .converge k mask sample other (registerAfter tx written)
      (deviceResult (if k ≤ iteration then written else written ^^^ mask) sample other tx)
  | .never mask sample other written _ =>
    .never mask sample other (registerAfter tx written) (deviceResult (written ^^^ mask) sample other tx)

end Sys2Proof.Machine
end

