-- ==== Sys2Proof/Safety.lean ====
section
/-! DEFINITION. What counts as a safe state and run, in the terms the statements use: the invariant of the block
(10 R38, R39 and the rules each clause names), the work left of a CONFIGURE (41 R143), the exchanges of a run,
the PIPE premise (60 R247), and the block run closed with a test transport (60 R248, R249). -/

namespace Sys2Proof.Machine

/-! ### The invariant -/

/-- The four configuration registers hold a legal configuration (10 R38). -/
def configLegal (s : State) : Prop :=
  s.cfgPresent = true ∧
  (∃ r, inputRange? s.cfgRange = some r ∧ s.cmd = commandWord r s.cfgRef) ∧
  (s.cfgRef = .internal → s.cfgVref = Config.vrefInternal) ∧
  (s.cfgRef = .external → vrefValid s.cfgVref = true)

/-- The `fsm_state` values in which an iteration has read the register back (41 R136-R139). -/
def gotCaptured : FsmState → Bool
  | .cfgSettle2 | .cfgCheck | .cfgFlush => true
  | .uninit | .cfgWrite | .cfgSettle1 | .cfgReadReq | .cfgNop | .ready => false

/-- The frame on the transport interface is the one the rules name for the state (20 R52, R57; 41 R132): the
sequencer's own frames while it runs, a caller's otherwise, and READ_SCALED's is the NOP frame. -/
def frameNamed (s : State) (f : Frame) : Prop :=
  match s.fsm with
  | .cfgWrite => s.hostOp = none ∧ f = codecEncode 0xD0#8 0x14#8 s.cmd
  | .cfgReadReq => s.hostOp = none ∧ f = codecEncode 0xC8#8 0x14#8 0x0000#16
  | .cfgNop => s.hostOp = none ∧ f = codecEncode 0x00#8 0x00#8 0x0000#16
  | .cfgFlush => s.hostOp = none ∧ f = codecEncode 0x00#8 0x00#8 0x0000#16
  | .uninit => s.hostOp = some .raw
  | .ready => s.hostOp = some .raw ∨ (s.hostOp = some .scaled ∧ f = codecEncode 0x00#8 0x00#8 0x0000#16)
  | .cfgSettle1 => False
  | .cfgSettle2 => False
  | .cfgCheck => False

/-- The invariant every step keeps. -/
structure Inv (s : State) : Prop where
  /-- `cfg_valid = 1` implies a legal configuration (10 R38). -/
  valid_legal : s.cfgValid = true → configLegal s
  /-- READY implies `cfg_valid = 1` (10 R39). -/
  ready_valid : s.fsm = .ready → s.cfgValid = true
  /-- The sequencer runs on a configuration a CONFIGURE loaded (10 R23, 43 R202). -/
  busy_valid : fsmBusy s.fsm = true → s.cfgValid = true
  /-- `attempt` never exceeds MAX_ATTEMPTS (10 R30). -/
  attempt_bound : s.attempt ≤ Config.maxAttempts
  /-- An iteration begins only while attempts are left (41 R138). -/
  attempt_left : s.fsm = .cfgWrite → s.tx = none → s.attempt < Config.maxAttempts
  /-- During iteration k the register holds k ≥ 1 (10 R30). -/
  attempt_counted : fsmBusy s.fsm = true → (s.fsm = .cfgWrite ∧ s.tx = none) ∨ 1 ≤ s.attempt
  /-- A frame on the interface is one the rules name (20 R52, R57). -/
  frame_named : ∀ f, s.tx = some f → frameNamed s f
  /-- An operation in progress waits for an exchange (43 R212). -/
  op_exchange : s.hostOp.isSome = true → s.tx.isSome = true
  /-- `got` holds the read-back from CFG_SETTLE2 on (10 R36). -/
  got_present : gotCaptured s.fsm = true → s.gotPresent = true
  /-- The flush follows convergence only (41 R139). -/
  flush_converged : s.fsm = .cfgFlush → s.got = s.cmd
  /-- `rsp_cause` is nonzero only with INVALID_CONFIGURATION (60 R231). -/
  cause_zero : s.rspPresent = true → s.rspStatus ≠ .invalidConfiguration → s.rspCause = 0#2
  /-- The value fields are 0 on every status other than OK (60 R232). -/
  error_zero : s.rspPresent = true → s.rspStatus ≠ .ok → s.rspValue = 0#16 ∧ s.rspVolts = 0#64
  /-- A completed request has written the response registers (43 R212). -/
  valid_present : s.rspValid = true → s.rspPresent = true

/-! ### Registers that hold no value -/

/-- What a reader who takes an absent register for absent can see of a state (10 R36): every register that holds no
value since reset stands at its value of the reset state, whatever bits it has. -/
def State.masked (s : State) : State :=
  { s with
    cfgRange := if s.cfgPresent then s.cfgRange else State.reset.cfgRange
    cfgRef := if s.cfgPresent then s.cfgRef else State.reset.cfgRef
    cfgVref := if s.cfgPresent then s.cfgVref else State.reset.cfgVref
    cmd := if s.cfgPresent then s.cmd else State.reset.cmd
    got := if s.gotPresent then s.got else State.reset.got
    rspStatus := if s.rspPresent then s.rspStatus else State.reset.rspStatus
    rspCause := if s.rspPresent then s.rspCause else State.reset.rspCause
    rspValue := if s.rspPresent then s.rspValue else State.reset.rspValue
    rspVolts := if s.rspPresent then s.rspVolts else State.reset.rspVolts }

/-! ### The sequencer's progress -/

/-- A settle state (41 R134, R137). -/
def fsmSettling : FsmState → Bool
  | .cfgSettle1 | .cfgSettle2 => true
  | .uninit | .cfgWrite | .cfgReadReq | .cfgNop | .cfgCheck | .cfgFlush | .ready => false

/-- How many effective turns a CONFIGURE still takes at most: nine for each iteration left, the rest of the
current one, and two for the flush (41 R132, R143). -/
def workLeft (s : State) : Nat :=
  match s.fsm, s.tx with
  | .cfgWrite, none => 9 * (Config.maxAttempts - s.attempt) + 2
  | .cfgWrite, some _ => 9 * (Config.maxAttempts - s.attempt) + 10
  | .cfgSettle1, _ => 9 * (Config.maxAttempts - s.attempt) + 9
  | .cfgReadReq, none => 9 * (Config.maxAttempts - s.attempt) + 8
  | .cfgReadReq, some _ => 9 * (Config.maxAttempts - s.attempt) + 7
  | .cfgNop, none => 9 * (Config.maxAttempts - s.attempt) + 6
  | .cfgNop, some _ => 9 * (Config.maxAttempts - s.attempt) + 5
  | .cfgSettle2, _ => 9 * (Config.maxAttempts - s.attempt) + 4
  | .cfgCheck, _ => 9 * (Config.maxAttempts - s.attempt) + 3
  | .cfgFlush, none => 2
  | .cfgFlush, some _ => 1
  | .uninit, _ => 0
  | .ready, _ => 0

/-- The turn that the block waits for (00_scope R14): the transport's return while an exchange is in progress, a
settle signal of at least T_SETTLE in a settle state, the block's own turn otherwise. -/
def effectiveTurn (s : State) : Bool :=
  match s.tx, s.turn with
  | some _, .transport _ => true
  | none, .settle elapsed => fsmSettling s.fsm && decide (Config.tSettle ≤ elapsed)
  | none, .block => !fsmSettling s.fsm
  | _, _ => false

/-! ### Exchanges and the PIPE premise -/

/-- PIPE for a sequence of exchanges (tx, rx) (60 R247): `result n` is the device's result for the frame of
exchange `n`, `content n a` the content of register `a` then, and `latched n` the current latched value then.
Nothing is said of the results R247 leaves open, of bytes 2 and 3, or of the first response. -/
structure PipePremise (content : Nat → Byte → BitVec 16) (latched result : Nat → BitVec 16)
    (log : List (Frame × Frame)) : Prop where
  /-- The response to any frame carries in bytes 0 and 1 the result of the frame before it. -/
  pipelined : ∀ n tx rx, log[n + 1]? = some (tx, rx) → codecDecode rx = result n
  /-- The result of a READ_HWORD of register `a` is the register's content. -/
  read_result : ∀ n tx rx, log[n]? = some (tx, rx) → tx.f0 = commandOpcode .readHword → result n = content n tx.f1
  /-- The result of a NOP is the current latched value. -/
  nop_result : ∀ n tx rx, log[n]? = some (tx, rx) → tx.f0 = commandOpcode .nop → result n = latched n

/-- The next state of a step, if it has one. -/
def nextState? (o : Host.Outcome State Fault Refusal) : Option State :=
  match o with
  | .next s => some s
  | .fault _ => none
  | .refused _ => none

/-! ### The block closed with a test transport -/

/-- A run of the block with a test transport and the exchanges (tx, rx) so far. -/
structure Run where
  state : State
  device : TestTransport
  log : List (Frame × Frame)
deriving DecidableEq, Repr

/-- One step of the closed run: the transport returns while an exchange is in progress, the settle signal comes
in a settle state, and the block moves otherwise. The transport is told the block's `attempt`, from which CONVERGE
takes the iteration of a CONFIGURE (60 R249; log 17). -/
def closedStep (r : Run) : Option Run :=
  match r.state.tx with
  | some f =>
    (nextState? (step { r.state with agenda := [.transport r.device.respond] })).map fun s =>
      { state := s, device := r.device.after r.state.attempt f, log := r.log ++ [(f, r.device.respond)] }
  | none =>
    (nextState? (step { r.state with
        agenda := [if fsmSettling r.state.fsm then .settle Config.tSettle else .block] })).map fun s =>
      { r with state := s }

/-- `n` steps of the closed run. -/
def closedRun : Nat → Run → Option Run
  | 0, r => some r
  | n + 1, r =>
    match closedStep r with
    | some r' => closedRun n r'
    | none => none

/-! ### What a request does, in the terms the statements use -/

/-- The state after a request that ends with an error status of 60 R236 other than the timeout: the response
registers hold the status, the cause and zeros, and nothing else changes. -/
def rejected (status : Status) (cause : BitVec 2) (s : State) : State :=
  { s with
    rspStatus := status, rspCause := cause, rspValue := 0#16, rspVolts := 0#64
    rspPresent := true, rspValid := true }

/-- The state after a request that ends with OK, a value and a voltage (43 R205, R207, R209). -/
def answered (value : BitVec 16) (volts : F64) (s : State) : State :=
  { s with
    rspStatus := .ok, rspCause := 0#2, rspValue := value, rspVolts := volts
    rspPresent := true, rspValid := true, tx := none, hostOp := none }

/-- An instruction carried out whole, for a block free to accept it: it puts frame `f` on the transport
interface, and when the transport agent returns any rx the request ends with OK, the decoded value and the
voltage `volts` gives for it; nothing else changes (40 R105, 43 R205). -/
def sendsThenAnswers (i : Instr) (op : HostOp) (f : Frame) (volts : BitVec 16 → F64) (s : State) : Prop :=
  exec i s = .next { s with tx := some f, hostOp := some op } ∧
  ∀ rx rest,
    step { s with tx := some f, hostOp := some op, agenda := .transport rx :: rest } =
      .next (answered (codecDecode rx) (volts (codecDecode rx)) { s with agenda := rest })

/-- The frame a request sends when it is accepted (40 R105; 43 R205, R207, R209); CONFIGURE and the reserved codes
send none on acceptance. -/
def requestFrame : Instr → Option Frame
  | .nop a d => some (codecEncode 0x00#8 a d)
  | .read a d => some (codecEncode 0x48#8 a d)
  | .readHword a d => some (codecEncode 0xC8#8 a d)
  | .write a d => some (codecEncode 0xD0#8 a d)
  | .writeMsbyte a d => some (codecEncode 0xD2#8 a d)
  | .writeLsbyte a d => some (codecEncode 0xD4#8 a d)
  | .setHword a d => some (codecEncode 0xD8#8 a d)
  | .clearHword a d => some (codecEncode 0xC0#8 a d)
  | .unnamedOpcode o a d => some (codecEncode o a d)
  | .configure _ _ _ _ => none
  | .sendRaw o a d => some (codecEncode o a d)
  | .readRaw => some (codecEncode 0x00#8 0x00#8 0x0000#16)
  | .readScaled => some (codecEncode 0x00#8 0x00#8 0x0000#16)
  | .reserved100 => none
  | .reserved101 => none
  | .reserved110 => none
  | .reserved111 => none

/-! ### Terms for the arithmetic -/

/-- The number of units of 2^-1074 that the lower 63 bits of a finite number stand for (IEEE 754 binary64). -/
def lowUnits (low : Nat) : Nat :=
  if low / 2 ^ 52 = 0 then low else (2 ^ 52 + low % 2 ^ 52) * 2 ^ (low / 2 ^ 52 - 1)

/-- A finite normal number: at least 2^-1022 in magnitude. -/
def f64Normal (x : F64) : Prop := ∃ s m, f64Class x = .fin s m ∧ 2 ^ 52 ≤ m

/-- `a ≤ b` for finite numbers; false if either is not finite. -/
def f64Le (a b : F64) : Prop :=
  ∃ s m t n, f64Class a = .fin s m ∧ f64Class b = .fin t n ∧ signedUnits s m ≤ signedUnits t n

/-- The three frames of one iteration of the sequencer, in order (41 R142). -/
def iterationFrames (cmd : BitVec 16) : List Frame :=
  [codecEncode 0xD0#8 0x14#8 cmd, codecEncode 0xC8#8 0x14#8 0x0000#16, codecEncode 0x00#8 0x00#8 0x0000#16]

end Sys2Proof.Machine
end

