-- ==== Sys2Proof/Certificates/Slice0/Obligations.lean ====
section
/-! DEFINITION. The statements for the provers, from the numbered rules of the spec. -/

open Sys2Proof Sys2Proof.Machine

/-! ### Encodings -/

/-- Decoding the bytes of a well-formed instruction gives it back, with every operand value (30 R71, R77, R79). -/
def Obligations.DecodeBytesInvertsEncodeBytes : Prop :=
  ∀ i : Instr, i.wellFormed = true → decodeBytes (encodeBytes i) = .ok i

/-- 30 R76: every 32-bit pattern is a frame the codec's encoder produces, is decoded as a response, and is a
well-formed instruction whose encoding is that pattern. -/
def Obligations.EveryFramePatternIsAnInstruction : Prop :=
  ∀ f : Frame,
    (∃ o a d, codecEncode o a d = f) ∧ (∃ v, codecDecode f = v) ∧
    ∃ i, decodeBytes [f.f0, f.f1, f.f2, f.f3] = .ok i ∧ i.wellFormed = true ∧
      encodeBytes i = [f.f0, f.f1, f.f2, f.f3]

/-- 40 R100, 30 R71: where the codec puts opcode, address and data in the frame. -/
def Obligations.CodecEncodesOpcodeAddressData : Prop :=
  ∀ (o a : Byte) (d : BitVec 16),
    (codecEncode o a d).f0 = o ∧ (codecEncode o a d).f1 = a ∧
    (codecEncode o a d).f2.toNat = d.toNat / 256 ∧ (codecEncode o a d).f3.toNat = d.toNat % 256 ∧
    (frame32 (codecEncode o a d)).toNat = o.toNat * 2 ^ 24 + a.toNat * 2 ^ 16 + d.toNat

/-- 40 R101: the decoded value is byte 0 times 256 plus byte 1; bytes 2 and 3 are not read. So decode after encode
gives the opcode and the address, and the data does not appear (R102). -/
def Obligations.CodecDecodesFirstTwoBytes : Prop :=
  (∀ f0 f1 f2 f3 g2 g3 : Byte,
    (codecDecode ⟨f0, f1, f2, f3⟩).toNat = f0.toNat * 256 + f1.toNat ∧
    codecDecode ⟨f0, f1, f2, f3⟩ = codecDecode ⟨f0, f1, g2, g3⟩) ∧
  ∀ (o a : Byte) (d : BitVec 16), (codecDecode (codecEncode o a d)).toNat = o.toNat * 256 + a.toNat

/-- 30 R71, R73, R79: words of the opcode table. The 32-bit words are written out from the spec's frame encoding. That
the 8-bit words are the low bits of a request bundle with `req_op` in bits 2:0 and every other bit 0 is the model's
choice (log 2: the spec gives no packing of the port's fields); the codes in those bits are R79's. -/
def Obligations.TableWordsDecodeToTheirRows : Prop :=
  decodeTableWord 32 0x00000000 = some (.nop 0x00#8 0x0000#16) ∧
  decodeTableWord 32 0xC8140000 = some (.readHword 0x14#8 0x0000#16) ∧
  decodeTableWord 32 0xD0140004 = some (.write 0x14#8 0x0004#16) ∧
  decodeTableWord 32 0x01808001 = some (.unnamedOpcode 0x01#8 0x80#8 0x8001#16) ∧
  decodeTableWord 8 0 = some (.configure 0#4 .internal false 0#64) ∧
  decodeTableWord 8 1 = some (.sendRaw 0x00#8 0x00#8 0x0000#16) ∧
  decodeTableWord 8 2 = some .readRaw ∧
  decodeTableWord 8 7 = some .reserved111

/-- 30 R77: a field that the selected operation does not use has no effect. -/
def Obligations.UnusedRequestFieldsAreIgnored : Prop :=
  ∀ r r' : Request, r.op = r'.op →
    (r.op = 0#3 → r.range = r'.range ∧ r.ref = r'.ref ∧ r.vrefValid = r'.vrefValid ∧ r.vref = r'.vref) →
    (r.op = 1#3 → r.opcode = r'.opcode ∧ r.addr = r'.addr ∧ r.data = r'.data) →
    decodeRequest r = decodeRequest r'

/-- 30 R86: a device-command shorthand is the SEND_RAW it stands for, and the command frame presented in its place
does the same; missing operands are 0. -/
def Obligations.ShorthandsActAsSendRaw : Prop :=
  ∀ (c : DeviceCommand) (a : Option Byte) (d : Option (BitVec 16)) (s : State), s.occupied = false →
    decodePort (.req (assemble (.device c a d))) =
      .sendRaw (commandOpcode c) (a.getD 0x00#8) (d.getD 0x0000#16) ∧
    exec (decodePort (.cmd (codecEncode (commandOpcode c) (a.getD 0x00#8) (d.getD 0x0000#16)))) s =
      exec (.sendRaw (commandOpcode c) (a.getD 0x00#8) (d.getD 0x0000#16)) s

/-! ### A step, and requests at the port -/

/-- A step runs the decoded request: on the block's turn a free block carries out the oldest request at the port
from the state with `rsp_valid` lowered, the turn taken and the request off the port. -/
def Obligations.StepRunsTheDecodedRequest : Prop :=
  ∀ (s : State) (w : PortWord) (ws : List PortWord),
    s.turn = .block → s.occupied = false → s.requests = w :: ws →
    step s = exec (decodePort w) { s with rspValid := false, agenda := s.agenda.tail, requests := ws }

/-- A word of the opcode table presented at the port is what the next step runs. -/
def Obligations.PresentedTableWordRunsNext : Prop :=
  ∀ (s : State) (nbits w : Nat) (i : Instr), decodeTableWord nbits w = some i →
    step (s.withFetchWord nbits w) =
      exec i { s with
        rspValid := false, tx := none, hostOp := none
        fsm := if fsmBusy s.fsm = true then .uninit else s.fsm }

/-- 30 R80: while a request is in progress another one holds: carrying it out only leaves it at the port, and no
turn takes a request off the port. That the requests presented wait in a queue, and stay across a reset, is the
model's choice (log 4). -/
def Obligations.RequestsHoldWhileOneIsInProgress : Prop :=
  (∀ (i : Instr) (s : State), s.occupied = true →
    exec i s = .next { s with requests := encodePort i :: s.requests }) ∧
  (∀ s t : State, s.occupied = true → step s = .next t →
    t.requests = s.requests ∨ ∃ w, s.turn = .caller w ∧ t.requests = s.requests ++ [w])

/-- 30 R87: every request presented to a free block gets a verdict: it starts an exchange, or starts the
sequencer, or is rejected with one of the five immediate statuses and changes nothing else. -/
def Obligations.EveryRequestGetsAVerdict : Prop :=
  ∀ (w : PortWord) (s : State), s.occupied = false →
    ∃ t, exec (decodePort w) s = .next t ∧
      ((∃ f op, requestFrame (decodePort w) = some f ∧ t = { s with tx := some f, hostOp := some op }) ∨
       (∃ range ref vv v, decodePort w = .configure range ref vv v ∧ t.fsm = .cfgWrite ∧ t.tx = none ∧
          t.rspValid = s.rspValid) ∨
       (∃ st c, (st = .invalidRequest ∨ st = .invalidConfiguration ∨ st = .notReady ∨
          st = .transportInitError ∨ st = .configurationError) ∧ t = rejected st c s))

/-! ### The device commands -/

/-- 40 R107-R114 with 30 R86: each named device command, with the transport ready, sends the frame of its rule and
ends with OK and the decoded value; it changes nothing but the response. That the frame
may be presented at the port, as the SEND_RAW it stands for, is the model's choice (log 1). -/
def Obligations.NamedCommandsSendTheirFrame : Prop :=
  ∀ (a : Byte) (d : BitVec 16) (s : State), s.occupied = false → s.xportStatus = 0#2 →
    sendsThenAnswers (.nop a d) .raw ⟨0x00#8, a, d.extractLsb' 8 8, d.extractLsb' 0 8⟩ (fun _ => 0#64) s ∧
    sendsThenAnswers (.read a d) .raw ⟨0x48#8, a, d.extractLsb' 8 8, d.extractLsb' 0 8⟩ (fun _ => 0#64) s ∧
    sendsThenAnswers (.readHword a d) .raw ⟨0xC8#8, a, d.extractLsb' 8 8, d.extractLsb' 0 8⟩ (fun _ => 0#64) s ∧
    sendsThenAnswers (.write a d) .raw ⟨0xD0#8, a, d.extractLsb' 8 8, d.extractLsb' 0 8⟩ (fun _ => 0#64) s ∧
    sendsThenAnswers (.writeMsbyte a d) .raw ⟨0xD2#8, a, d.extractLsb' 8 8, d.extractLsb' 0 8⟩ (fun _ => 0#64) s ∧
    sendsThenAnswers (.writeLsbyte a d) .raw ⟨0xD4#8, a, d.extractLsb' 8 8, d.extractLsb' 0 8⟩ (fun _ => 0#64) s ∧
    sendsThenAnswers (.setHword a d) .raw ⟨0xD8#8, a, d.extractLsb' 8 8, d.extractLsb' 0 8⟩ (fun _ => 0#64) s ∧
    sendsThenAnswers (.clearHword a d) .raw ⟨0xC0#8, a, d.extractLsb' 8 8, d.extractLsb' 0 8⟩ (fun _ => 0#64) s

/-- 30 R75: a frame with any other opcode is built and exchanged like any other, and raises no status. That it
may be presented at the port, as the SEND_RAW it stands for, is the model's choice (log 1). -/
def Obligations.UnnamedOpcodesSendTheirFrame : Prop :=
  ∀ (o a : Byte) (d : BitVec 16) (s : State), s.occupied = false → s.xportStatus = 0#2 →
    sendsThenAnswers (.unnamedOpcode o a d) .raw ⟨o, a, d.extractLsb' 8 8, d.extractLsb' 0 8⟩ (fun _ => 0#64) s

/-- 60 R234, check 4, and 43 R205: a command frame is rejected by the transport's status, as the SEND_RAW it stands for
(30 R86 for the named opcodes, R75 for the others). Those rules speak of SEND_RAW: that a frame may be presented at the
port at all is the model's choice (log 1). -/
def Obligations.CommandFramesRejectedByTransport : Prop :=
  ∀ (f : Frame) (s : State), s.occupied = false →
    ((s.xportStatus = 1#2 ∨ s.xportStatus = 3#2) →
      exec (decodePort (.cmd f)) s = .next (rejected .transportInitError 0#2 s)) ∧
    (s.xportStatus = 2#2 → exec (decodePort (.cmd f)) s = .next (rejected .configurationError 0#2 s))

/-! ### The block operations -/

/-- 43 R205: SEND_RAW, in UNINIT and READY: the transport checks, then the frame and the answer; every block
register but the response is unchanged. -/
def Obligations.SendRawFollowsItsRule : Prop :=
  ∀ (o a : Byte) (d : BitVec 16) (s : State), s.occupied = false →
    ((s.xportStatus = 1#2 ∨ s.xportStatus = 3#2) →
      exec (.sendRaw o a d) s = .next (rejected .transportInitError 0#2 s)) ∧
    (s.xportStatus = 2#2 → exec (.sendRaw o a d) s = .next (rejected .configurationError 0#2 s)) ∧
    (s.xportStatus = 0#2 →
      sendsThenAnswers (.sendRaw o a d) .raw ⟨o, a, d.extractLsb' 8 8, d.extractLsb' 0 8⟩ (fun _ => 0#64) s)

/-- 43 R207: READ_RAW: NOT_READY outside READY, then the transport checks, then the NOP frame and the answer. -/
def Obligations.ReadRawFollowsItsRule : Prop :=
  ∀ s : State, s.occupied = false →
    (s.fsm ≠ .ready → exec .readRaw s = .next (rejected .notReady 0#2 s)) ∧
    (s.fsm = .ready → (s.xportStatus = 1#2 ∨ s.xportStatus = 3#2) →
      exec .readRaw s = .next (rejected .transportInitError 0#2 s)) ∧
    (s.fsm = .ready → s.xportStatus = 2#2 → exec .readRaw s = .next (rejected .configurationError 0#2 s)) ∧
    (s.fsm = .ready → s.xportStatus = 0#2 →
      sendsThenAnswers .readRaw .raw ⟨0x00#8, 0x00#8, 0x00#8, 0x00#8⟩ (fun _ => 0#64) s)

/-- 43 R209: READ_SCALED: as READ_RAW, and the answer carries the voltage of the configured range and reference
as well as the raw code (the configuration that READY implies, 10 R39, is a hypothesis of that clause). -/
def Obligations.ReadScaledFollowsItsRule : Prop :=
  ∀ s : State, s.occupied = false →
    (s.fsm ≠ .ready → exec .readScaled s = .next (rejected .notReady 0#2 s)) ∧
    (s.fsm = .ready → (s.xportStatus = 1#2 ∨ s.xportStatus = 3#2) →
      exec .readScaled s = .next (rejected .transportInitError 0#2 s)) ∧
    (s.fsm = .ready → s.xportStatus = 2#2 → exec .readScaled s = .next (rejected .configurationError 0#2 s)) ∧
    (∀ r : InputRange, s.fsm = .ready → s.xportStatus = 0#2 →
      s.cfgValid = true → s.cfgPresent = true → s.cfgRange = rangeIndex r →
      sendsThenAnswers .readScaled .scaled ⟨0x00#8, 0x00#8, 0x00#8, 0x00#8⟩ (fun raw => scale raw r s.cfgVref) s)

/-- 30 R86: in READY, READ_RAW behaves exactly as SEND_RAW NOP, 0x00, 0x0000. -/
def Obligations.ReadRawIsSendRawNopInReady : Prop :=
  ∀ s : State, s.fsm = .ready → s.occupied = false → exec .readRaw s = exec (.sendRaw 0x00#8 0x00#8 0x0000#16) s

/-- 43 R201: the checks of CONFIGURE, in order, each leaving everything but the response unchanged. -/
def Obligations.ConfigureChecksInOrder : Prop :=
  ∀ (range : BitVec 4) (ref : RefMode) (vv : Bool) (v : F64) (s : State), s.occupied = false →
    (8 < range.toNat → exec (.configure range ref vv v) s = .next (rejected .invalidConfiguration 0#2 s)) ∧
    (range.toNat ≤ 8 → ref = .external → vv = false →
      exec (.configure range ref vv v) s = .next (rejected .invalidConfiguration 1#2 s)) ∧
    (range.toNat ≤ 8 → ref = .external → vv = true → vrefValid v = false →
      exec (.configure range ref vv v) s = .next (rejected .invalidConfiguration 3#2 s)) ∧
    (range.toNat ≤ 8 → (ref = .internal ∨ (vv = true ∧ vrefValid v = true)) →
      (s.xportStatus = 1#2 ∨ s.xportStatus = 3#2) →
      exec (.configure range ref vv v) s = .next (rejected .transportInitError 0#2 s)) ∧
    (range.toNat ≤ 8 → (ref = .internal ∨ (vv = true ∧ vrefValid v = true)) → s.xportStatus = 2#2 →
      exec (.configure range ref vv v) s = .next (rejected .configurationError 0#2 s))

/-- 43 R202: an accepted CONFIGURE loads the configuration and starts the sequencer, all in one step. -/
def Obligations.ConfigureLoadsAndStarts : Prop :=
  ∀ (r : InputRange) (ref : RefMode) (vv : Bool) (v : F64) (s : State),
    s.occupied = false → s.xportStatus = 0#2 → (ref = .external → vv = true ∧ vrefValid v = true) →
    exec (.configure (rangeIndex r) ref vv v) s =
      .next { s with
        cfgRange := rangeIndex r, cfgRef := ref
        cfgVref := if ref = .internal then 0x4010624DD2F1A9FC#64 else v
        cmd := Config.rangeCode r ||| Config.refCode ref
        cfgPresent := true, cfgValid := true, attempt := 0, fsm := .cfgWrite }

/-- 30 R83, 43 R201: with the Internal reference the two voltage fields have no effect. -/
def Obligations.InternalReferenceIgnoresVoltage : Prop :=
  ∀ (range : BitVec 4) (vv vv' : Bool) (v v' : F64) (s : State), s.occupied = false →
    exec (.configure range .internal vv v) s = exec (.configure range .internal vv' v') s

/-- 43 R211: the reserved request codes: INVALID_REQUEST, with no other change; while a request is in progress they
hold like every other. -/
def Obligations.ReservedCodesAreInvalidRequests : Prop :=
  ∀ (i : Instr) (s : State),
    (i = .reserved100 ∨ i = .reserved101 ∨ i = .reserved110 ∨ i = .reserved111) →
    (s.occupied = false → exec i s = .next (rejected .invalidRequest 0#2 s)) ∧
    (s.occupied = true → exec i s = .next { s with requests := encodePort i :: s.requests })

/-! ### The sequencer -/

/-- 41 R133: CFG_WRITE counts the iteration, sends `WRITE 0x14, cmd`, discards the response and goes on. -/
def Obligations.CfgWriteSendsCommand : Prop :=
  ∀ s : State, s.fsm = .cfgWrite → s.tx = none → s.hostOp = none → s.cfgPresent = true → s.turn = .block →
    step s = .next { s.beginStep with
      attempt := s.attempt + 1
      tx := some ⟨0xD0#8, 0x14#8, s.cmd.extractLsb' 8 8, s.cmd.extractLsb' 0 8⟩ } ∧
    ∀ rx rest,
      step { s with
        attempt := s.attempt + 1, agenda := .transport rx :: rest
        tx := some ⟨0xD0#8, 0x14#8, s.cmd.extractLsb' 8 8, s.cmd.extractLsb' 0 8⟩ } =
      .next { s with attempt := s.attempt + 1, rspValid := false, agenda := rest, fsm := .cfgSettle1 }

/-- 41 R134, R137, 60 R250: the settle states wait for a settle signal of at least T_SETTLE, which is more than 0. -/
def Obligations.SettleStatesWaitForTheInterval : Prop :=
  0 < Config.tSettle ∧
  ∀ (s : State) (elapsed : Nat) (rest : List Turn), s.tx = none → s.agenda = .settle elapsed :: rest →
    (s.fsm = .cfgSettle1 → Config.tSettle ≤ elapsed →
      step s = .next { s with rspValid := false, agenda := rest, fsm := .cfgReadReq }) ∧
    (s.fsm = .cfgSettle2 → Config.tSettle ≤ elapsed →
      step s = .next { s with rspValid := false, agenda := rest, fsm := .cfgCheck }) ∧
    ((s.fsm = .cfgSettle1 ∨ s.fsm = .cfgSettle2) → elapsed < Config.tSettle →
      step s = .next { s with rspValid := false, agenda := rest })

/-- 41 R135: CFG_READREQ sends `READ_HWORD 0x14, 0x0000`, discards the response and goes on. -/
def Obligations.CfgReadReqSendsReadHword : Prop :=
  ∀ s : State, s.fsm = .cfgReadReq → s.tx = none → s.hostOp = none → s.turn = .block →
    step s = .next { s.beginStep with tx := some ⟨0xC8#8, 0x14#8, 0x00#8, 0x00#8⟩ } ∧
    ∀ rx rest,
      step { s with agenda := .transport rx :: rest, tx := some ⟨0xC8#8, 0x14#8, 0x00#8, 0x00#8⟩ } =
      .next { s with rspValid := false, agenda := rest, fsm := .cfgNop }

/-- 41 R136: CFG_NOP sends `NOP 0x00, 0x0000` and captures the decoded response in `got`. -/
def Obligations.CfgNopCapturesTheReadBack : Prop :=
  ∀ s : State, s.fsm = .cfgNop → s.tx = none → s.hostOp = none → s.turn = .block →
    step s = .next { s.beginStep with tx := some ⟨0x00#8, 0x00#8, 0x00#8, 0x00#8⟩ } ∧
    ∀ rx rest,
      step { s with agenda := .transport rx :: rest, tx := some ⟨0x00#8, 0x00#8, 0x00#8, 0x00#8⟩ } =
      .next { s with
        rspValid := false, agenda := rest, fsm := .cfgSettle2, got := codecDecode rx, gotPresent := true }

/-- 41 R138: CFG_CHECK compares the 16 bits exactly: to CFG_FLUSH on a match, back to CFG_WRITE while attempts are
left. -/
def Obligations.CfgCheckComparesExactly : Prop :=
  ∀ s : State, s.fsm = .cfgCheck → s.tx = none → s.gotPresent = true → s.cfgPresent = true → s.turn = .block →
    (s.got = s.cmd → step s = .next { s.beginStep with fsm := .cfgFlush }) ∧
    (s.got ≠ s.cmd → s.attempt < Config.maxAttempts → step s = .next { s.beginStep with fsm := .cfgWrite })

/-- 41 R140: with `got ≠ cmd` at the last attempt, ConfigurationTimeout: its response, `cfg_valid` cleared, UNINIT,
no flush; the configuration registers keep their bits. -/
def Obligations.LastMismatchTimesOut : Prop :=
  ∀ s : State, s.fsm = .cfgCheck → s.tx = none → s.hostOp = none → s.gotPresent = true → s.cfgPresent = true →
    s.turn = .block → s.got ≠ s.cmd → s.attempt = Config.maxAttempts →
    step s = .next { s.beginStep with
      rspStatus := .configurationTimeout, rspCause := 0#2, rspValue := 0#16, rspVolts := 0#64
      rspPresent := true, rspValid := true, cfgValid := false, fsm := .uninit }

/-- 41 R139: CFG_FLUSH sends one NOP; its return ends the CONFIGURE with OK, the iterations used (saturating at
65535) and READY. -/
def Obligations.CfgFlushEndsReady : Prop :=
  ∀ s : State, s.fsm = .cfgFlush → s.tx = none → s.hostOp = none → s.turn = .block →
    step s = .next { s.beginStep with tx := some ⟨0x00#8, 0x00#8, 0x00#8, 0x00#8⟩ } ∧
    ∀ rx rest,
      step { s with agenda := .transport rx :: rest, tx := some ⟨0x00#8, 0x00#8, 0x00#8, 0x00#8⟩ } =
      .next { s with
        agenda := rest, fsm := .ready
        rspStatus := .ok, rspCause := 0#2, rspVolts := 0#64, rspPresent := true, rspValid := true
        rspValue := if s.attempt ≤ 65535 then BitVec.ofNat 16 s.attempt else 0xFFFF#16 }

/-- 41 R132: no transition of the sequencer but those of the table: from a busy state a step that is not a reset
stays, or goes where the table says, on the event the table names. -/
def Obligations.SequencerTransitionsAreTheTable : Prop :=
  ∀ s t : State, fsmBusy s.fsm = true → step s = .next t → s.turn ≠ .reset → t.fsm ≠ s.fsm →
    (s.fsm = .cfgWrite ∧ s.tx.isSome = true ∧ (∃ rx, s.turn = .transport rx) ∧ t.fsm = .cfgSettle1) ∨
    (s.fsm = .cfgSettle1 ∧ (∃ n, s.turn = .settle n ∧ Config.tSettle ≤ n) ∧ t.fsm = .cfgReadReq) ∨
    (s.fsm = .cfgReadReq ∧ s.tx.isSome = true ∧ (∃ rx, s.turn = .transport rx) ∧ t.fsm = .cfgNop) ∨
    (s.fsm = .cfgNop ∧ s.tx.isSome = true ∧ (∃ rx, s.turn = .transport rx) ∧ t.fsm = .cfgSettle2) ∨
    (s.fsm = .cfgSettle2 ∧ (∃ n, s.turn = .settle n ∧ Config.tSettle ≤ n) ∧ t.fsm = .cfgCheck) ∨
    (s.fsm = .cfgCheck ∧ s.turn = .block ∧ s.got = s.cmd ∧ t.fsm = .cfgFlush) ∨
    (s.fsm = .cfgCheck ∧ s.turn = .block ∧ s.got ≠ s.cmd ∧ s.attempt < Config.maxAttempts ∧ t.fsm = .cfgWrite) ∨
    (s.fsm = .cfgCheck ∧ s.turn = .block ∧ s.got ≠ s.cmd ∧ Config.maxAttempts ≤ s.attempt ∧ t.fsm = .uninit) ∨
    (s.fsm = .cfgFlush ∧ s.tx.isSome = true ∧ (∃ rx, s.turn = .transport rx) ∧ t.fsm = .ready)

/-- 41 R145: the sequencer cannot be interrupted or cancelled: while it runs no request is accepted, and it leaves
the CFG_* states only with READY and OK, with the timeout, or by a reset. That the requests presented wait in a queue,
and stay at the port across a reset, is the model's choice (log 4: the spec does not say). -/
def Obligations.SequencerIsNotInterrupted : Prop :=
  ∀ s t : State, fsmBusy s.fsm = true → step s = .next t →
    (t.requests = s.requests ∨ ∃ w, s.turn = .caller w ∧ t.requests = s.requests ++ [w]) ∧
    (fsmBusy t.fsm = false →
      s.turn = .reset ∨
      (s.fsm = .cfgFlush ∧ t.fsm = .ready ∧ t.rspStatus = .ok ∧ t.rspValid = true) ∨
      (s.fsm = .cfgCheck ∧ t.fsm = .uninit ∧ t.rspStatus = .configurationTimeout ∧ t.rspValid = true ∧
        t.cfgValid = false))

/-- 41 R143, R131: under the invariant every turn the sequencer waits for brings a CONFIGURE nearer its end, no other
turn but a reset moves it, and the work left is bounded by MAX_ATTEMPTS. -/
def Obligations.SequencerMakesProgress : Prop :=
  ∀ s t : State, Inv s → fsmBusy s.fsm = true → step s = .next t →
    workLeft s ≤ 9 * Config.maxAttempts + 2 ∧
    (effectiveTurn s = true → workLeft t < workLeft s) ∧
    (effectiveTurn s = false → s.turn ≠ .reset → workLeft t = workLeft s ∧ t.fsm = s.fsm)

/-- 41 R136, R144 and 70 R274 under PIPE (60 R247): the `got` of an iteration is the content of register 0x14 at
its READ_HWORD, and the first READ_RAW after the flush NOP of a CONFIGURE answers the latched value at that NOP. -/
def Obligations.PipeMakesGotTheRegisterContent : Prop :=
  ∀ (s : State) (f rx rx' : Frame) (rest : List Turn)
    (content : Nat → Byte → BitVec 16) (latched result : Nat → BitVec 16),
    Inv s → s.tx = some f → s.agenda = .transport rx :: .block :: .transport rx' :: rest →
    PipePremise content latched result [(f, rx), (codecEncode 0x00#8 0x00#8 0x0000#16, rx')] →
    (s.fsm = .cfgReadReq →
      ∃ t, Host.Core.run Sys2Proof.core 3 s = .next t ∧ t.fsm = .cfgSettle2 ∧ t.gotPresent = true ∧
        t.got = content 0 0x14#8 ∧ t.agenda = rest) ∧
    (∀ ws, s.fsm = .cfgFlush → s.requests = encodePort .readRaw :: ws → s.xportStatus = 0#2 →
      ∃ t, Host.Core.run Sys2Proof.core 3 s = .next t ∧ t.fsm = .ready ∧ t.requests = ws ∧
        t.rspValid = true ∧ t.rspStatus = .ok ∧ t.rspValue = latched 0 ∧ t.agenda = rest)

/-! ### Exchanges and registers, over every step -/

/-- 20 R59, 60 R245: one exchange at a time: a frame on the interface stays there until the transport returns or a
reset abandons it, and every other turn leaves all registers as they are. -/
def Obligations.ExchangeHoldsUntilTheTransportReturns : Prop :=
  ∀ (s t : State) (f : Frame), s.tx = some f → step s = .next t →
    (t.tx = none ∧ (s.turn = .reset ∨ ∃ rx, s.turn = .transport rx)) ∨
    (∃ reqs x, t = { s.beginStep with requests := reqs, xportStatus := x } ∧
      s.turn ≠ .reset ∧ ∀ rx, s.turn ≠ .transport rx)

/-- 20 R57, R52; 41 R132; 43: the block sends no frame but the ones the rules name: the sequencer's frame of its
state, or the frame of the request it accepts. -/
def Obligations.FramesSentAreThoseTheRulesName : Prop :=
  ∀ (s t : State) (f : Frame), s.tx = none → step s = .next t → t.tx = some f →
    s.turn = .block ∧
    ((s.fsm = .cfgWrite ∧ f = codecEncode 0xD0#8 0x14#8 s.cmd) ∨
     (s.fsm = .cfgReadReq ∧ f = codecEncode 0xC8#8 0x14#8 0x0000#16) ∨
     ((s.fsm = .cfgNop ∨ s.fsm = .cfgFlush) ∧ f = codecEncode 0x00#8 0x00#8 0x0000#16) ∨
     (s.occupied = false ∧ ∃ w ws, s.requests = w :: ws ∧ requestFrame (decodePort w) = some f))

/-- 10 R27: the configuration registers are written, all together, only when a CONFIGURE is accepted, and lost only
by a reset. -/
def Obligations.OnlyConfigureWritesTheConfiguration : Prop :=
  ∀ s t : State, step s = .next t →
    s.turn = .reset ∨
    (t.cfgRange = s.cfgRange ∧ t.cfgRef = s.cfgRef ∧ t.cfgVref = s.cfgVref ∧ t.cmd = s.cmd) ∨
    (s.turn = .block ∧ s.occupied = false ∧ ∃ r ref vv v w ws, s.requests = w :: ws ∧
      decodePort w = .configure (rangeIndex r) ref vv v ∧ t.cfgRange = rangeIndex r ∧ t.cfgRef = ref ∧
      t.cfgVref = (if ref = .internal then Config.vrefInternal else v) ∧
      t.cmd = Config.rangeCode r ||| Config.refCode ref ∧ t.cfgValid = true ∧ t.fsm = .cfgWrite)

/-- 10 R29: only the return of the read-back NOP in CFG_NOP writes `got`, with the decoded response. -/
def Obligations.OnlyTheReadBackWritesGot : Prop :=
  ∀ s t : State, step s = .next t → t.got ≠ s.got →
    s.turn = .reset ∨
    (s.fsm = .cfgNop ∧ s.tx.isSome = true ∧ ∃ rx, s.turn = .transport rx ∧ t.got = codecDecode rx)

/-- 10 R23: `cfg_valid` is set by an accepted CONFIGURE and cleared by a timeout or a reset, and by nothing else. -/
def Obligations.CfgValidChangesOnlyByConfigureAndTimeout : Prop :=
  ∀ s t : State, step s = .next t → t.cfgValid ≠ s.cfgValid →
    s.turn = .reset ∨
    (t.cfgValid = true ∧ t.fsm = .cfgWrite ∧ s.occupied = false ∧
      ∃ w ws range ref vv v, s.requests = w :: ws ∧ decodePort w = .configure range ref vv v) ∨
    (t.cfgValid = false ∧ s.fsm = .cfgCheck ∧ t.fsm = .uninit ∧ t.rspStatus = .configurationTimeout)

/-- 10 R31, 30 R80, 43 R212: the response registers hold until the next request completes, and `rsp_valid` is 1 only
in the state after a completion, in which no request is in progress. That R80's "one step" ends at the next turn of
any agent is the model's reading (log 11, DEDUCED: the spec has no clock). -/
def Obligations.ResponseHoldsUntilTheNextCompletion : Prop :=
  ∀ s t : State, step s = .next t → s.turn ≠ .reset →
    (t.rspValid = false ∧ t.rspStatus = s.rspStatus ∧ t.rspCause = s.rspCause ∧ t.rspValue = s.rspValue ∧
      t.rspVolts = s.rspVolts ∧ t.rspPresent = s.rspPresent) ∨
    (t.rspValid = true ∧ t.rspPresent = true ∧ t.occupied = false)

/-- 60 R230, R31: the codes of the seven statuses, at the response port; code 7 is never shown. -/
def Obligations.StatusCodesAtTheResponsePort : Prop :=
  (statusCode .ok = 0#3 ∧ statusCode .transportInitError = 1#3 ∧ statusCode .configurationError = 2#3 ∧
    statusCode .configurationTimeout = 3#3 ∧ statusCode .invalidConfiguration = 4#3 ∧
    statusCode .invalidRequest = 5#3 ∧ statusCode .notReady = 6#3) ∧
  ∀ (s : State) (p : ResponsePort), responsePort s = some p → p.status ≠ 7#3

/-! ### Reset and the invariant -/

/-- 70 R270, 10 R35: a reset, at any time, leaves UNINIT, `cfg_valid` 0 and `attempt` 0, every other block register
absent, and abandons the request, the exchange and the settle wait in progress; the inputs are not reset (log 4,
log 6: the model's choice). -/
def Obligations.ResetAbandonsEverything : Prop :=
  ∀ s : State, s.turn = .reset →
    ∃ t, step s = .next t ∧ t.fsm = .uninit ∧ t.cfgValid = false ∧ t.attempt = 0 ∧
      t.cfgPresent = false ∧ t.gotPresent = false ∧ t.rspPresent = false ∧ t.rspValid = false ∧
      t.tx = none ∧ t.hostOp = none ∧ responsePort t = none ∧ t.occupied = false ∧
      t.requests = s.requests ∧ t.xportStatus = s.xportStatus ∧ t.agenda = s.agenda.tail

/-- 10 R35, 70 R271: what the reset state holds, and that the block sends nothing on its own: with no turn of the
environment it stays in the reset state. -/
def Obligations.ResetStateWaitsForARequest : Prop :=
  State.reset.fsm = .uninit ∧ State.reset.cfgValid = false ∧ State.reset.attempt = 0 ∧
  State.reset.cfgPresent = false ∧ State.reset.gotPresent = false ∧ State.reset.rspPresent = false ∧
  State.reset.tx = none ∧ step State.reset = .next State.reset

/-- Every step keeps the invariant (10 R30, R38, R39; 60 R231, R232 and the rules of Inv's clauses). -/
def Obligations.EveryStepKeepsTheInvariant : Prop :=
  ∀ s t : State, Inv s → step s = .next t → Inv t

/-- The reset state meets the invariant. -/
def Obligations.ResetMeetsTheInvariant : Prop := Inv State.reset

/-- First clause: no step stops, from any state at all. THE MODEL'S CHOICE (log 5), not R36: 10 R36, 92 D23 and 93 U9
name a fault for a model's read of an absent register, which they call unreachable, and this model raises none, so the
clause holds in states that no run reaches too. Second clause, 10 R36's "No operation reads such a register before
writing it": under the invariant, two states that agree but for the bits of registers that hold no value step to two
states that agree but for the bits of such registers, so the values the model gives them at reset (log 5) are never
seen. -/
def Obligations.NoStepStopsUnderTheInvariant : Prop :=
  (∀ s : State, ∃ t, step s = .next t) ∧
  ∀ s s' t t' : State, Inv s → s.masked = s'.masked → step s = .next t → step s' = .next t' → t.masked = t'.masked

/-- 42 R177: the engine's invariant check raises InvalidConfiguration with cause 2 and returns no voltage; under the
invariant it never fires. -/
def Obligations.EngineCheckIsCauseTwoAndUnreachable : Prop :=
  (∀ (s : State) (rx : Frame) (rest : List Turn) (f : Frame),
    (s.fsm = .uninit ∨ s.fsm = .ready) → s.tx = some f → s.hostOp = some .scaled →
    s.agenda = .transport rx :: rest →
    (s.cfgValid = false ∨ (s.cfgValid = true ∧ s.cfgPresent = true ∧ 8 < s.cfgRange.toNat)) →
    step s = .next (rejected .invalidConfiguration 2#2
      { s with tx := none, hostOp := none, agenda := rest })) ∧
  (∀ s t : State, Inv s → step s = .next t → t.rspValid = true →
    t.rspStatus = .invalidConfiguration → t.rspCause ≠ 2#2)

/-! ### The scaling engine and its arithmetic -/

/-- 00 R13: the rounding is to nearest, ties to even: a finite result is at least as near the exact `num / den` as
any finite number, and in a tie it is the even one. -/
def Obligations.RoundingIsToNearestEven : Prop :=
  ∀ num den low : Nat, 0 < den → roundLow num den < f64InfLow → low < f64InfLow →
    ((num : Int) - den * lowUnits (roundLow num den)).natAbs ≤ ((num : Int) - den * lowUnits low).natAbs ∧
    (((num : Int) - den * lowUnits (roundLow num den)).natAbs = ((num : Int) - den * lowUnits low).natAbs →
      low ≠ roundLow num den → roundLow num den % 2 = 0)

/-- 00 R13: `toF64(n)` is exact for n ≤ 2^53. -/
def Obligations.IntegersConvertExactly : Prop :=
  ∀ n : Nat, n ≤ 2 ^ 53 → f64Class (natToF64 n) = .fin false (n * 2 ^ 1074)

/-- 00 R8, 92 D7: VREF_VALID, 2^-900 ≤ v ≤ 2^900 and finite, is one interval of bit patterns. -/
def Obligations.VrefValidIsABitInterval : Prop :=
  ∀ v : F64, vrefValid v = true ↔ 0x07B0000000000000 ≤ v.toNat ∧ v.toNat ≤ 0x7830000000000000

/-- 42 R180(a): a unipolar raw 0 gives +0.0. -/
def Obligations.UnipolarZeroIsPositiveZero : Prop :=
  ∀ (r : InputRange) (v : F64), bipolar r = false → vrefValid v = true → scale 0x0000#16 r v = 0#64

/-- 42 R180(b): no bipolar code gives 0.0 of either sign. -/
def Obligations.BipolarNeverScalesToZero : Prop :=
  ∀ (raw : BitVec 16) (r : InputRange) (v : F64), bipolar r = true → vrefValid v = true →
    scale raw r v ≠ 0#64 ∧ scale raw r v ≠ 0x8000000000000000#64

/-- 42 R180(c): bipolar antisymmetry, bit for bit. -/
def Obligations.BipolarScaleIsAntisymmetric : Prop :=
  ∀ (raw : BitVec 16) (r : InputRange) (v : F64), bipolar r = true → vrefValid v = true →
    scale (0xFFFF#16 - raw) r v = f64Neg (scale raw r v)

/-- 42 R180(d): for a fixed range and reference the voltage is non-decreasing in the raw code. -/
def Obligations.ScaleIsMonotone : Prop :=
  ∀ (raw raw' : BitVec 16) (r : InputRange) (v : F64), vrefValid v = true → raw.toNat ≤ raw'.toNat →
    f64Le (scale raw r v) (scale raw' r v)

/-- 42 R180(e): every intermediate and every nonzero result is a finite normal number. -/
def Obligations.ScaleStaysFiniteAndNormal : Prop :=
  ∀ (raw : BitVec 16) (r : InputRange) (v : F64), vrefValid v = true →
    f64Normal (f64Mul v (span r)) ∧ f64Normal (f64Div (f64Mul v (span r)) Config.fullScale) ∧
    f64Normal (scaleFactor r v) ∧
    (adjustedRaw raw r = 0#64 ∨ f64Normal (adjustedRaw raw r)) ∧
    (scale raw r v = 0#64 ∨ f64Normal (scale raw r v))

/-- 42 R176: the doubling may stand at any of three places. -/
def Obligations.DoublingOrderDoesNotMatter : Prop :=
  ∀ (r : InputRange) (v : F64), vrefValid v = true →
    f64Mul (f64Div (f64Mul v (span r)) Config.fullScale) 0x4000000000000000#64 =
      f64Div (f64Mul (f64Mul v (span r)) 0x4000000000000000#64) Config.fullScale ∧
    f64Div (f64Mul (f64Mul v (span r)) 0x4000000000000000#64) Config.fullScale =
      f64Div (f64Mul v (f64Mul (span r) 0x4000000000000000#64)) Config.fullScale

/-- 42 R180(f): the source's scaling examples. -/
def Obligations.ScalingExamplesOfTheSource : Prop :=
  scale 0xFFFF#16 .uni1p25 Config.vrefInternal = 0x40147AE147AE147B#64 ∧
  scale 0x0000#16 .bip0p625 Config.vrefInternal = 0xC0047AE147AE147B#64 ∧
  scale 0xFFFF#16 .bip0p625 Config.vrefInternal = 0x40047AE147AE147B#64 ∧
  scale 0x7FFF#16 .bip0p625 Config.vrefInternal = 0xBF047AF5C2A3D71F#64

/-! ### The block with the source's test transports -/

/-- 60 R248, example E1: through LOOP the value of a SEND_RAW is the previous call's opcode and address. -/
def Obligations.LoopbackReturnsThePreviousPair : Prop :=
  ∀ (o a o' a' : Byte) (d d' latch : BitVec 16) (s : State),
    s.occupied = false → s.xportStatus = 0#2 →
    s.requests = [encodePort (.sendRaw o a d), encodePort (.sendRaw o' a' d')] →
    (∃ r, closedRun 2 ⟨s, .loop latch, []⟩ = some r ∧ r.state.rspStatus = .ok ∧ r.state.rspValue = latch) ∧
    (∃ r, closedRun 4 ⟨s, .loop latch, []⟩ = some r ∧ r.state.rspStatus = .ok ∧ r.state.rspValue = o ++ a ∧
      r.device = .loop (o' ++ a'))

/-- 43 R208(b), example E7: repeated READ_RAW requests against a transport that always returns the same value return
that value every time, and change nothing but the response. -/
def Obligations.RepeatedReadRawDoesNotDrift : Prop :=
  ∀ (n : Nat) (v : BitVec 16) (s : State),
    s.fsm = .ready → s.occupied = false → s.xportStatus = 0#2 →
    s.requests = List.replicate (n + 1) (encodePort .readRaw) →
    ∃ r, closedRun (2 * (n + 1)) ⟨s, .fixed v, []⟩ = some r ∧
      r.state = { s with
        requests := [], agenda := [], rspStatus := .ok, rspCause := 0#2, rspValue := v, rspVolts := 0#64
        rspPresent := true, rspValid := true } ∧
      r.log.length = n + 1

/-- 41 R142, R139, 60 R249, example E4: with a transport that reports the written value from iteration k on, a
CONFIGURE sends the three frames of an iteration k times and one flush NOP, and ends READY with OK and k. The one mask
(any but 0) that makes the other value in every iteration before k, and the results `sample` and `other` of frames that are no read of 0x14 are the model's form of the transport (log 17). -/
def Obligations.ConvergingConfigureEndsReady : Prop :=
  ∀ (k : Nat) (mask sample other written latch : BitVec 16) (range : InputRange) (ref : RefMode) (vv : Bool)
    (v : F64) (s : State),
    1 ≤ k → k ≤ Config.maxAttempts → mask ≠ 0#16 → s.occupied = false → s.xportStatus = 0#2 →
    (ref = .external → vv = true ∧ vrefValid v = true) →
    s.requests = [encodePort (.configure (rangeIndex range) ref vv v)] →
    ∃ r, closedRun (9 * k + 3) ⟨s, .converge k mask sample other written latch, []⟩ = some r ∧
      r.state.fsm = .ready ∧ r.state.cfgValid = true ∧ r.state.attempt = k ∧
      r.state.rspStatus = .ok ∧ r.state.rspCause = 0#2 ∧ r.state.rspVolts = 0#64 ∧ r.state.rspValid = true ∧
      r.state.rspValue = BitVec.ofNat 16 (min k 65535) ∧
      r.state.cfgRange = rangeIndex range ∧ r.state.cfgRef = ref ∧ r.state.cmd = commandWord range ref ∧
      r.state.got = r.state.cmd ∧
      r.log.map Prod.fst =
        (List.replicate k (iterationFrames (commandWord range ref))).flatten ++
          [codecEncode 0x00#8 0x00#8 0x0000#16]

/-- 41 R131, R140, R142, 60 R249, example E5: with a transport that never reports the written value, a CONFIGURE sends
the three frames MAX_ATTEMPTS times and no flush, and ends in UNINIT with CONFIGURATION_TIMEOUT. The one mask (any
but 0) that makes the other value in every iteration, and the results `sample` and `other` of frames that are no read
of 0x14, are the model's form of the transport (log 17). -/
def Obligations.NonConvergingConfigureTimesOut : Prop :=
  ∀ (mask sample other written latch : BitVec 16) (range : InputRange) (ref : RefMode) (vv : Bool) (v : F64)
    (s : State),
    mask ≠ 0#16 → s.occupied = false → s.xportStatus = 0#2 →
    (ref = .external → vv = true ∧ vrefValid v = true) →
    s.requests = [encodePort (.configure (rangeIndex range) ref vv v)] →
    ∃ r, closedRun (9 * Config.maxAttempts + 1) ⟨s, .never mask sample other written latch, []⟩ = some r ∧
      r.state.fsm = .uninit ∧ r.state.cfgValid = false ∧ r.state.attempt = Config.maxAttempts ∧
      r.state.rspStatus = .configurationTimeout ∧ r.state.rspCause = 0#2 ∧ r.state.rspValue = 0#16 ∧
      r.state.rspVolts = 0#64 ∧ r.state.rspValid = true ∧
      r.log.map Prod.fst =
        (List.replicate Config.maxAttempts (iterationFrames (commandWord range ref))).flatten
end

