-- ==== Sys2Proof/Laws/PerInstr.lean ====
section
/-! SUPPORT. The per-instruction family PortRoundTrip: what a well-formed instruction's encoder presents at the
port decodes to that instruction (30_encoding R71, R77, R79). -/

namespace Sys2Proof

/-- The data word of an encoded frame is the one encoded (40 R100, 30 R71). -/
@[simp] theorem frameData_codecEncode (o a : Byte) (d : BitVec 16) :
    Machine.frameData (Machine.codecEncode o a d) = d := by
  apply BitVec.eq_of_toNat_eq
  simp only [Machine.frameData, Machine.codecEncode, BitVec.toNat_append, BitVec.extractLsb'_toNat,
    Nat.shiftRight_zero]
  have hd : d.toNat < 65536 := d.isLt
  rw [← Nat.shiftLeft_add_eq_or_of_lt (Nat.mod_lt _ (by decide))]
  simp only [Nat.shiftLeft_eq, Nat.shiftRight_eq_div_pow]
  omega

/-- A named command's opcode byte spells it (30 R73). -/
@[simp] theorem namedCommand?_commandOpcode (c : DeviceCommand) :
    Machine.namedCommand? (Machine.commandOpcode c) = some c := by cases c <;> rfl

/-- The reference bit of a mode selects it (30 R82). -/
@[simp] theorem refOfBit_bitOfRef (m : RefMode) : refOfBit (bitOfRef m) = m := by cases m <;> rfl

/-- A frame with a named opcode decodes to that command's instruction. -/
theorem decodeCommand_named (c : DeviceCommand) (a : Byte) (d : BitVec 16) :
    decodeCommand (Machine.codecEncode (Machine.commandOpcode c) a d) =
      match c with
      | .nop => .nop a d
      | .read => .read a d
      | .readHword => .readHword a d
      | .write => .write a d
      | .writeMsbyte => .writeMsbyte a d
      | .writeLsbyte => .writeLsbyte a d
      | .setHword => .setHword a d
      | .clearHword => .clearHword a d := by
  have h : Machine.namedCommand? (Machine.codecEncode (Machine.commandOpcode c) a d).f0 = some c :=
    namedCommand?_commandOpcode c
  unfold decodeCommand
  rw [h]
  cases c <;> simp only [frameData_codecEncode] <;> rfl

namespace Laws.PortRoundTrip

/-- What the encoder presents for the instruction decodes to it. -/
def Statement (i : Instr) : Prop := i.wellFormed = true → decodePort (encodePort i) = i

theorem nop (a : Byte) (d : BitVec 16) : Statement (.nop a d) := fun _ => decodeCommand_named .nop a d
theorem read (a : Byte) (d : BitVec 16) : Statement (.read a d) := fun _ => decodeCommand_named .read a d
theorem readHword (a : Byte) (d : BitVec 16) : Statement (.readHword a d) :=
  fun _ => decodeCommand_named .readHword a d
theorem write (a : Byte) (d : BitVec 16) : Statement (.write a d) := fun _ => decodeCommand_named .write a d
theorem writeMsbyte (a : Byte) (d : BitVec 16) : Statement (.writeMsbyte a d) :=
  fun _ => decodeCommand_named .writeMsbyte a d
theorem writeLsbyte (a : Byte) (d : BitVec 16) : Statement (.writeLsbyte a d) :=
  fun _ => decodeCommand_named .writeLsbyte a d
theorem setHword (a : Byte) (d : BitVec 16) : Statement (.setHword a d) :=
  fun _ => decodeCommand_named .setHword a d
theorem clearHword (a : Byte) (d : BitVec 16) : Statement (.clearHword a d) :=
  fun _ => decodeCommand_named .clearHword a d
theorem unnamedOpcode (o a : Byte) (d : BitVec 16) : Statement (.unnamedOpcode o a d) := by
  intro h
  have h' : Machine.namedCommand? (Machine.codecEncode o a d).f0 = none := by
    show Machine.namedCommand? o = none
    simpa [Instr.wellFormed] using h
  simp only [encodePort, decodePort, decodeCommand, h', frameData_codecEncode]
  rfl
theorem configure (range : BitVec 4) (ref : RefMode) (vv : Bool) (v : F64) : Statement (.configure range ref vv v) := by
  intro _
  cases ref <;> cases vv <;> rfl
theorem sendRaw (o a : Byte) (d : BitVec 16) : Statement (.sendRaw o a d) := fun _ => rfl
theorem readRaw : Statement .readRaw := fun _ => rfl
theorem readScaled : Statement .readScaled := fun _ => rfl
theorem reserved100 : Statement .reserved100 := fun _ => rfl
theorem reserved101 : Statement .reserved101 := fun _ => rfl
theorem reserved110 : Statement .reserved110 := fun _ => rfl
theorem reserved111 : Statement .reserved111 := fun _ => rfl

end Laws.PortRoundTrip

end Sys2Proof
end

