-- ==== Sys2Proof/Laws/Codec.lean ====
section
/-! SUPPORT. Lemmas of the codec and the value frame that callers cite instead of unfolding them. -/

namespace Sys2Proof.Machine

@[simp] theorem codecEncode_f0 (o a : Byte) (d : BitVec 16) : (codecEncode o a d).f0 = o := rfl
@[simp] theorem codecEncode_f1 (o a : Byte) (d : BitVec 16) : (codecEncode o a d).f1 = a := rfl

/-- The decoder reads the value a value frame carries (40 R101, 60 R248). -/
@[simp] theorem codecDecode_valueFrame (v : BitVec 16) : codecDecode (valueFrame v) = v := by
  apply BitVec.eq_of_toNat_eq
  have hv : v.toNat < 65536 := v.isLt
  have hlow : v.toNat % 256 < 2 ^ 8 := Nat.mod_lt _ (by decide)
  have hhigh : v.toNat / 256 % 256 = v.toNat / 256 := Nat.mod_eq_of_lt (by omega)
  have h1 : v.toNat / 256 % 65536 = v.toNat / 256 := Nat.mod_eq_of_lt (by omega)
  have h2 : v.toNat % 256 % 65536 = v.toNat % 256 := Nat.mod_eq_of_lt (by omega)
  have h3 : (v.toNat / 256) <<< 8 % 65536 = (v.toNat / 256) <<< 8 := by
    rw [Nat.shiftLeft_eq]; exact Nat.mod_eq_of_lt (by omega)
  simp only [codecDecode, valueFrame, BitVec.toNat_or, BitVec.toNat_shiftLeft, BitVec.toNat_setWidth,
    BitVec.truncate_eq_setWidth, BitVec.extractLsb'_toNat, Nat.shiftRight_eq_div_pow]
  norm_num only [hhigh, h1, h2, h3, Nat.div_one]
  rw [← Nat.shiftLeft_add_eq_or_of_lt hlow, Nat.shiftLeft_eq]
  omega

/-! ### The test transports on the sequencer's frames (60 R249) -/

@[simp] theorem registerAfter_write (d written : BitVec 16) :
    registerAfter (codecEncode 0xD0#8 0x14#8 d) written = d := by
  have h : isRangeWrite (codecEncode 0xD0#8 0x14#8 d) = true := rfl
  rw [registerAfter, if_pos h, frameData_codecEncode]

@[simp] theorem registerAfter_readHword (d written : BitVec 16) :
    registerAfter (codecEncode 0xC8#8 0x14#8 d) written = written := rfl

@[simp] theorem registerAfter_nop (a : Byte) (d written : BitVec 16) :
    registerAfter (codecEncode 0x00#8 a d) written = written := rfl

/-- After a WRITE of 0x14 the device holds a result R247 leaves open (log 17). -/
@[simp] theorem deviceResult_write (reading sample other d : BitVec 16) :
    deviceResult reading sample other (codecEncode 0xD0#8 0x14#8 d) = other := rfl

/-- After a READ_HWORD of 0x14 the device holds the register's content (60 R247). -/
@[simp] theorem deviceResult_readHword (reading sample other d : BitVec 16) :
    deviceResult reading sample other (codecEncode 0xC8#8 0x14#8 d) = reading := rfl

/-- After a NOP the device holds the current latched value (60 R247, 70 R274). -/
@[simp] theorem deviceResult_nop (reading sample other d : BitVec 16) (a : Byte) :
    deviceResult reading sample other (codecEncode 0x00#8 a d) = sample := rfl

@[simp] theorem converge_after_write (n k : Nat) (mask sample other written latch d : BitVec 16) :
    (TestTransport.converge k mask sample other written latch).after n (codecEncode 0xD0#8 0x14#8 d) =
      .converge k mask sample other d other := by
  simp [TestTransport.after]

/-- CONVERGE(k) reads the written value back from iteration k on, another one before (60 R249). -/
@[simp] theorem converge_after_readHword (n k : Nat) (mask sample other written latch d : BitVec 16) :
    (TestTransport.converge k mask sample other written latch).after n (codecEncode 0xC8#8 0x14#8 d) =
      .converge k mask sample other written (if k ≤ n then written else written ^^^ mask) := by
  simp [TestTransport.after]

@[simp] theorem converge_after_nop (n k : Nat) (mask sample other written latch d : BitVec 16) (a : Byte) :
    (TestTransport.converge k mask sample other written latch).after n (codecEncode 0x00#8 a d) =
      .converge k mask sample other written sample := by
  simp [TestTransport.after]

@[simp] theorem never_after_write (n : Nat) (mask sample other written latch d : BitVec 16) :
    (TestTransport.never mask sample other written latch).after n (codecEncode 0xD0#8 0x14#8 d) =
      .never mask sample other d other := by
  simp [TestTransport.after]

/-- NEVER reads a value other than the written one back (60 R249). -/
@[simp] theorem never_after_readHword (n : Nat) (mask sample other written latch d : BitVec 16) :
    (TestTransport.never mask sample other written latch).after n (codecEncode 0xC8#8 0x14#8 d) =
      .never mask sample other written (written ^^^ mask) := by
  simp [TestTransport.after]

@[simp] theorem never_after_nop (n : Nat) (mask sample other written latch d : BitVec 16) (a : Byte) :
    (TestTransport.never mask sample other written latch).after n (codecEncode 0x00#8 a d) =
      .never mask sample other written sample := by
  simp [TestTransport.after]

end Sys2Proof.Machine
end

