-- ==== Sys2Proof/Laws/State.lean ====
section
/-! SUPPORT. One lemma per field per update of the state, true by rfl, so that no later proof unfolds a record
update. -/

namespace Sys2Proof.Machine

/-! ### hold -/

@[simp] theorem hold_fsm (i : Instr) (s : State) : (s.hold i).fsm = s.fsm := rfl
@[simp] theorem hold_cfgValid (i : Instr) (s : State) : (s.hold i).cfgValid = s.cfgValid := rfl
@[simp] theorem hold_cfgRange (i : Instr) (s : State) : (s.hold i).cfgRange = s.cfgRange := rfl
@[simp] theorem hold_cfgRef (i : Instr) (s : State) : (s.hold i).cfgRef = s.cfgRef := rfl
@[simp] theorem hold_cfgVref (i : Instr) (s : State) : (s.hold i).cfgVref = s.cfgVref := rfl
@[simp] theorem hold_cmd (i : Instr) (s : State) : (s.hold i).cmd = s.cmd := rfl
@[simp] theorem hold_cfgPresent (i : Instr) (s : State) : (s.hold i).cfgPresent = s.cfgPresent := rfl
@[simp] theorem hold_got (i : Instr) (s : State) : (s.hold i).got = s.got := rfl
@[simp] theorem hold_gotPresent (i : Instr) (s : State) : (s.hold i).gotPresent = s.gotPresent := rfl
@[simp] theorem hold_attempt (i : Instr) (s : State) : (s.hold i).attempt = s.attempt := rfl
@[simp] theorem hold_rspStatus (i : Instr) (s : State) : (s.hold i).rspStatus = s.rspStatus := rfl
@[simp] theorem hold_rspCause (i : Instr) (s : State) : (s.hold i).rspCause = s.rspCause := rfl
@[simp] theorem hold_rspValue (i : Instr) (s : State) : (s.hold i).rspValue = s.rspValue := rfl
@[simp] theorem hold_rspVolts (i : Instr) (s : State) : (s.hold i).rspVolts = s.rspVolts := rfl
@[simp] theorem hold_rspPresent (i : Instr) (s : State) : (s.hold i).rspPresent = s.rspPresent := rfl
@[simp] theorem hold_rspValid (i : Instr) (s : State) : (s.hold i).rspValid = s.rspValid := rfl
@[simp] theorem hold_tx (i : Instr) (s : State) : (s.hold i).tx = s.tx := rfl
@[simp] theorem hold_hostOp (i : Instr) (s : State) : (s.hold i).hostOp = s.hostOp := rfl
@[simp] theorem hold_requests (i : Instr) (s : State) : (s.hold i).requests = encodePort i :: s.requests := rfl
@[simp] theorem hold_xportStatus (i : Instr) (s : State) : (s.hold i).xportStatus = s.xportStatus := rfl
@[simp] theorem hold_agenda (i : Instr) (s : State) : (s.hold i).agenda = s.agenda := rfl

/-! ### startExchange -/

@[simp] theorem startExchange_fsm (f : Frame) (op : Option HostOp) (s : State) : (s.startExchange f op).fsm = s.fsm := rfl
@[simp] theorem startExchange_cfgValid (f : Frame) (op : Option HostOp) (s : State) : (s.startExchange f op).cfgValid = s.cfgValid := rfl
@[simp] theorem startExchange_cfgRange (f : Frame) (op : Option HostOp) (s : State) : (s.startExchange f op).cfgRange = s.cfgRange := rfl
@[simp] theorem startExchange_cfgRef (f : Frame) (op : Option HostOp) (s : State) : (s.startExchange f op).cfgRef = s.cfgRef := rfl
@[simp] theorem startExchange_cfgVref (f : Frame) (op : Option HostOp) (s : State) : (s.startExchange f op).cfgVref = s.cfgVref := rfl
@[simp] theorem startExchange_cmd (f : Frame) (op : Option HostOp) (s : State) : (s.startExchange f op).cmd = s.cmd := rfl
@[simp] theorem startExchange_cfgPresent (f : Frame) (op : Option HostOp) (s : State) : (s.startExchange f op).cfgPresent = s.cfgPresent := rfl
@[simp] theorem startExchange_got (f : Frame) (op : Option HostOp) (s : State) : (s.startExchange f op).got = s.got := rfl
@[simp] theorem startExchange_gotPresent (f : Frame) (op : Option HostOp) (s : State) : (s.startExchange f op).gotPresent = s.gotPresent := rfl
@[simp] theorem startExchange_attempt (f : Frame) (op : Option HostOp) (s : State) : (s.startExchange f op).attempt = s.attempt := rfl
@[simp] theorem startExchange_rspStatus (f : Frame) (op : Option HostOp) (s : State) : (s.startExchange f op).rspStatus = s.rspStatus := rfl
@[simp] theorem startExchange_rspCause (f : Frame) (op : Option HostOp) (s : State) : (s.startExchange f op).rspCause = s.rspCause := rfl
@[simp] theorem startExchange_rspValue (f : Frame) (op : Option HostOp) (s : State) : (s.startExchange f op).rspValue = s.rspValue := rfl
@[simp] theorem startExchange_rspVolts (f : Frame) (op : Option HostOp) (s : State) : (s.startExchange f op).rspVolts = s.rspVolts := rfl
@[simp] theorem startExchange_rspPresent (f : Frame) (op : Option HostOp) (s : State) : (s.startExchange f op).rspPresent = s.rspPresent := rfl
@[simp] theorem startExchange_rspValid (f : Frame) (op : Option HostOp) (s : State) : (s.startExchange f op).rspValid = s.rspValid := rfl
@[simp] theorem startExchange_tx (f : Frame) (op : Option HostOp) (s : State) : (s.startExchange f op).tx = some f := rfl
@[simp] theorem startExchange_hostOp (f : Frame) (op : Option HostOp) (s : State) : (s.startExchange f op).hostOp = op := rfl
@[simp] theorem startExchange_requests (f : Frame) (op : Option HostOp) (s : State) : (s.startExchange f op).requests = s.requests := rfl
@[simp] theorem startExchange_xportStatus (f : Frame) (op : Option HostOp) (s : State) : (s.startExchange f op).xportStatus = s.xportStatus := rfl
@[simp] theorem startExchange_agenda (f : Frame) (op : Option HostOp) (s : State) : (s.startExchange f op).agenda = s.agenda := rfl

/-! ### respond -/

@[simp] theorem respond_fsm (st : Status) (c : BitVec 2) (v : BitVec 16) (x : F64) (s : State) : (s.respond st c v x).fsm = s.fsm := rfl
@[simp] theorem respond_cfgValid (st : Status) (c : BitVec 2) (v : BitVec 16) (x : F64) (s : State) : (s.respond st c v x).cfgValid = s.cfgValid := rfl
@[simp] theorem respond_cfgRange (st : Status) (c : BitVec 2) (v : BitVec 16) (x : F64) (s : State) : (s.respond st c v x).cfgRange = s.cfgRange := rfl
@[simp] theorem respond_cfgRef (st : Status) (c : BitVec 2) (v : BitVec 16) (x : F64) (s : State) : (s.respond st c v x).cfgRef = s.cfgRef := rfl
@[simp] theorem respond_cfgVref (st : Status) (c : BitVec 2) (v : BitVec 16) (x : F64) (s : State) : (s.respond st c v x).cfgVref = s.cfgVref := rfl
@[simp] theorem respond_cmd (st : Status) (c : BitVec 2) (v : BitVec 16) (x : F64) (s : State) : (s.respond st c v x).cmd = s.cmd := rfl
@[simp] theorem respond_cfgPresent (st : Status) (c : BitVec 2) (v : BitVec 16) (x : F64) (s : State) : (s.respond st c v x).cfgPresent = s.cfgPresent := rfl
@[simp] theorem respond_got (st : Status) (c : BitVec 2) (v : BitVec 16) (x : F64) (s : State) : (s.respond st c v x).got = s.got := rfl
@[simp] theorem respond_gotPresent (st : Status) (c : BitVec 2) (v : BitVec 16) (x : F64) (s : State) : (s.respond st c v x).gotPresent = s.gotPresent := rfl
@[simp] theorem respond_attempt (st : Status) (c : BitVec 2) (v : BitVec 16) (x : F64) (s : State) : (s.respond st c v x).attempt = s.attempt := rfl
@[simp] theorem respond_rspStatus (st : Status) (c : BitVec 2) (v : BitVec 16) (x : F64) (s : State) : (s.respond st c v x).rspStatus = st := rfl
@[simp] theorem respond_rspCause (st : Status) (c : BitVec 2) (v : BitVec 16) (x : F64) (s : State) : (s.respond st c v x).rspCause = c := rfl
@[simp] theorem respond_rspValue (st : Status) (c : BitVec 2) (v : BitVec 16) (x : F64) (s : State) : (s.respond st c v x).rspValue = v := rfl
@[simp] theorem respond_rspVolts (st : Status) (c : BitVec 2) (v : BitVec 16) (x : F64) (s : State) : (s.respond st c v x).rspVolts = x := rfl
@[simp] theorem respond_rspPresent (st : Status) (c : BitVec 2) (v : BitVec 16) (x : F64) (s : State) : (s.respond st c v x).rspPresent = true := rfl
@[simp] theorem respond_rspValid (st : Status) (c : BitVec 2) (v : BitVec 16) (x : F64) (s : State) : (s.respond st c v x).rspValid = true := rfl
@[simp] theorem respond_tx (st : Status) (c : BitVec 2) (v : BitVec 16) (x : F64) (s : State) : (s.respond st c v x).tx = none := rfl
@[simp] theorem respond_hostOp (st : Status) (c : BitVec 2) (v : BitVec 16) (x : F64) (s : State) : (s.respond st c v x).hostOp = none := rfl
@[simp] theorem respond_requests (st : Status) (c : BitVec 2) (v : BitVec 16) (x : F64) (s : State) : (s.respond st c v x).requests = s.requests := rfl
@[simp] theorem respond_xportStatus (st : Status) (c : BitVec 2) (v : BitVec 16) (x : F64) (s : State) : (s.respond st c v x).xportStatus = s.xportStatus := rfl
@[simp] theorem respond_agenda (st : Status) (c : BitVec 2) (v : BitVec 16) (x : F64) (s : State) : (s.respond st c v x).agenda = s.agenda := rfl

/-! ### loadConfiguration -/

@[simp] theorem loadConfiguration_fsm (i : BitVec 4) (r : InputRange) (m : RefMode) (v : F64) (s : State) : (s.loadConfiguration i r m v).fsm = .cfgWrite := rfl
@[simp] theorem loadConfiguration_cfgValid (i : BitVec 4) (r : InputRange) (m : RefMode) (v : F64) (s : State) : (s.loadConfiguration i r m v).cfgValid = true := rfl
@[simp] theorem loadConfiguration_cfgRange (i : BitVec 4) (r : InputRange) (m : RefMode) (v : F64) (s : State) : (s.loadConfiguration i r m v).cfgRange = i := rfl
@[simp] theorem loadConfiguration_cfgRef (i : BitVec 4) (r : InputRange) (m : RefMode) (v : F64) (s : State) : (s.loadConfiguration i r m v).cfgRef = m := rfl
@[simp] theorem loadConfiguration_cfgVref (i : BitVec 4) (r : InputRange) (m : RefMode) (v : F64) (s : State) : (s.loadConfiguration i r m v).cfgVref = selectVref m v := rfl
@[simp] theorem loadConfiguration_cmd (i : BitVec 4) (r : InputRange) (m : RefMode) (v : F64) (s : State) : (s.loadConfiguration i r m v).cmd = commandWord r m := rfl
@[simp] theorem loadConfiguration_cfgPresent (i : BitVec 4) (r : InputRange) (m : RefMode) (v : F64) (s : State) : (s.loadConfiguration i r m v).cfgPresent = true := rfl
@[simp] theorem loadConfiguration_got (i : BitVec 4) (r : InputRange) (m : RefMode) (v : F64) (s : State) : (s.loadConfiguration i r m v).got = s.got := rfl
@[simp] theorem loadConfiguration_gotPresent (i : BitVec 4) (r : InputRange) (m : RefMode) (v : F64) (s : State) : (s.loadConfiguration i r m v).gotPresent = s.gotPresent := rfl
@[simp] theorem loadConfiguration_attempt (i : BitVec 4) (r : InputRange) (m : RefMode) (v : F64) (s : State) : (s.loadConfiguration i r m v).attempt = 0 := rfl
@[simp] theorem loadConfiguration_rspStatus (i : BitVec 4) (r : InputRange) (m : RefMode) (v : F64) (s : State) : (s.loadConfiguration i r m v).rspStatus = s.rspStatus := rfl
@[simp] theorem loadConfiguration_rspCause (i : BitVec 4) (r : InputRange) (m : RefMode) (v : F64) (s : State) : (s.loadConfiguration i r m v).rspCause = s.rspCause := rfl
@[simp] theorem loadConfiguration_rspValue (i : BitVec 4) (r : InputRange) (m : RefMode) (v : F64) (s : State) : (s.loadConfiguration i r m v).rspValue = s.rspValue := rfl
@[simp] theorem loadConfiguration_rspVolts (i : BitVec 4) (r : InputRange) (m : RefMode) (v : F64) (s : State) : (s.loadConfiguration i r m v).rspVolts = s.rspVolts := rfl
@[simp] theorem loadConfiguration_rspPresent (i : BitVec 4) (r : InputRange) (m : RefMode) (v : F64) (s : State) : (s.loadConfiguration i r m v).rspPresent = s.rspPresent := rfl
@[simp] theorem loadConfiguration_rspValid (i : BitVec 4) (r : InputRange) (m : RefMode) (v : F64) (s : State) : (s.loadConfiguration i r m v).rspValid = s.rspValid := rfl
@[simp] theorem loadConfiguration_tx (i : BitVec 4) (r : InputRange) (m : RefMode) (v : F64) (s : State) : (s.loadConfiguration i r m v).tx = s.tx := rfl
@[simp] theorem loadConfiguration_hostOp (i : BitVec 4) (r : InputRange) (m : RefMode) (v : F64) (s : State) : (s.loadConfiguration i r m v).hostOp = s.hostOp := rfl
@[simp] theorem loadConfiguration_requests (i : BitVec 4) (r : InputRange) (m : RefMode) (v : F64) (s : State) : (s.loadConfiguration i r m v).requests = s.requests := rfl
@[simp] theorem loadConfiguration_xportStatus (i : BitVec 4) (r : InputRange) (m : RefMode) (v : F64) (s : State) : (s.loadConfiguration i r m v).xportStatus = s.xportStatus := rfl
@[simp] theorem loadConfiguration_agenda (i : BitVec 4) (r : InputRange) (m : RefMode) (v : F64) (s : State) : (s.loadConfiguration i r m v).agenda = s.agenda := rfl

/-! ### beginStep -/

@[simp] theorem beginStep_fsm (s : State) : (s.beginStep).fsm = s.fsm := rfl
@[simp] theorem beginStep_cfgValid (s : State) : (s.beginStep).cfgValid = s.cfgValid := rfl
@[simp] theorem beginStep_cfgRange (s : State) : (s.beginStep).cfgRange = s.cfgRange := rfl
@[simp] theorem beginStep_cfgRef (s : State) : (s.beginStep).cfgRef = s.cfgRef := rfl
@[simp] theorem beginStep_cfgVref (s : State) : (s.beginStep).cfgVref = s.cfgVref := rfl
@[simp] theorem beginStep_cmd (s : State) : (s.beginStep).cmd = s.cmd := rfl
@[simp] theorem beginStep_cfgPresent (s : State) : (s.beginStep).cfgPresent = s.cfgPresent := rfl
@[simp] theorem beginStep_got (s : State) : (s.beginStep).got = s.got := rfl
@[simp] theorem beginStep_gotPresent (s : State) : (s.beginStep).gotPresent = s.gotPresent := rfl
@[simp] theorem beginStep_attempt (s : State) : (s.beginStep).attempt = s.attempt := rfl
@[simp] theorem beginStep_rspStatus (s : State) : (s.beginStep).rspStatus = s.rspStatus := rfl
@[simp] theorem beginStep_rspCause (s : State) : (s.beginStep).rspCause = s.rspCause := rfl
@[simp] theorem beginStep_rspValue (s : State) : (s.beginStep).rspValue = s.rspValue := rfl
@[simp] theorem beginStep_rspVolts (s : State) : (s.beginStep).rspVolts = s.rspVolts := rfl
@[simp] theorem beginStep_rspPresent (s : State) : (s.beginStep).rspPresent = s.rspPresent := rfl
@[simp] theorem beginStep_rspValid (s : State) : (s.beginStep).rspValid = false := rfl
@[simp] theorem beginStep_tx (s : State) : (s.beginStep).tx = s.tx := rfl
@[simp] theorem beginStep_hostOp (s : State) : (s.beginStep).hostOp = s.hostOp := rfl
@[simp] theorem beginStep_requests (s : State) : (s.beginStep).requests = s.requests := rfl
@[simp] theorem beginStep_xportStatus (s : State) : (s.beginStep).xportStatus = s.xportStatus := rfl
@[simp] theorem beginStep_agenda (s : State) : (s.beginStep).agenda = s.agenda.tail := rfl

/-! ### present -/

@[simp] theorem present_fsm (w : PortWord) (s : State) : (s.present w).fsm = s.fsm := rfl
@[simp] theorem present_cfgValid (w : PortWord) (s : State) : (s.present w).cfgValid = s.cfgValid := rfl
@[simp] theorem present_cfgRange (w : PortWord) (s : State) : (s.present w).cfgRange = s.cfgRange := rfl
@[simp] theorem present_cfgRef (w : PortWord) (s : State) : (s.present w).cfgRef = s.cfgRef := rfl
@[simp] theorem present_cfgVref (w : PortWord) (s : State) : (s.present w).cfgVref = s.cfgVref := rfl
@[simp] theorem present_cmd (w : PortWord) (s : State) : (s.present w).cmd = s.cmd := rfl
@[simp] theorem present_cfgPresent (w : PortWord) (s : State) : (s.present w).cfgPresent = s.cfgPresent := rfl
@[simp] theorem present_got (w : PortWord) (s : State) : (s.present w).got = s.got := rfl
@[simp] theorem present_gotPresent (w : PortWord) (s : State) : (s.present w).gotPresent = s.gotPresent := rfl
@[simp] theorem present_attempt (w : PortWord) (s : State) : (s.present w).attempt = s.attempt := rfl
@[simp] theorem present_rspStatus (w : PortWord) (s : State) : (s.present w).rspStatus = s.rspStatus := rfl
@[simp] theorem present_rspCause (w : PortWord) (s : State) : (s.present w).rspCause = s.rspCause := rfl
@[simp] theorem present_rspValue (w : PortWord) (s : State) : (s.present w).rspValue = s.rspValue := rfl
@[simp] theorem present_rspVolts (w : PortWord) (s : State) : (s.present w).rspVolts = s.rspVolts := rfl
@[simp] theorem present_rspPresent (w : PortWord) (s : State) : (s.present w).rspPresent = s.rspPresent := rfl
@[simp] theorem present_rspValid (w : PortWord) (s : State) : (s.present w).rspValid = s.rspValid := rfl
@[simp] theorem present_tx (w : PortWord) (s : State) : (s.present w).tx = s.tx := rfl
@[simp] theorem present_hostOp (w : PortWord) (s : State) : (s.present w).hostOp = s.hostOp := rfl
@[simp] theorem present_requests (w : PortWord) (s : State) : (s.present w).requests = s.requests ++ [w] := rfl
@[simp] theorem present_xportStatus (w : PortWord) (s : State) : (s.present w).xportStatus = s.xportStatus := rfl
@[simp] theorem present_agenda (w : PortWord) (s : State) : (s.present w).agenda = s.agenda := rfl

/-! ### resetBlock -/

@[simp] theorem resetBlock_fsm (s : State) : (s.resetBlock).fsm = State.reset.fsm := rfl
@[simp] theorem resetBlock_cfgValid (s : State) : (s.resetBlock).cfgValid = State.reset.cfgValid := rfl
@[simp] theorem resetBlock_cfgRange (s : State) : (s.resetBlock).cfgRange = State.reset.cfgRange := rfl
@[simp] theorem resetBlock_cfgRef (s : State) : (s.resetBlock).cfgRef = State.reset.cfgRef := rfl
@[simp] theorem resetBlock_cfgVref (s : State) : (s.resetBlock).cfgVref = State.reset.cfgVref := rfl
@[simp] theorem resetBlock_cmd (s : State) : (s.resetBlock).cmd = State.reset.cmd := rfl
@[simp] theorem resetBlock_cfgPresent (s : State) : (s.resetBlock).cfgPresent = State.reset.cfgPresent := rfl
@[simp] theorem resetBlock_got (s : State) : (s.resetBlock).got = State.reset.got := rfl
@[simp] theorem resetBlock_gotPresent (s : State) : (s.resetBlock).gotPresent = State.reset.gotPresent := rfl
@[simp] theorem resetBlock_attempt (s : State) : (s.resetBlock).attempt = State.reset.attempt := rfl
@[simp] theorem resetBlock_rspStatus (s : State) : (s.resetBlock).rspStatus = State.reset.rspStatus := rfl
@[simp] theorem resetBlock_rspCause (s : State) : (s.resetBlock).rspCause = State.reset.rspCause := rfl
@[simp] theorem resetBlock_rspValue (s : State) : (s.resetBlock).rspValue = State.reset.rspValue := rfl
@[simp] theorem resetBlock_rspVolts (s : State) : (s.resetBlock).rspVolts = State.reset.rspVolts := rfl
@[simp] theorem resetBlock_rspPresent (s : State) : (s.resetBlock).rspPresent = State.reset.rspPresent := rfl
@[simp] theorem resetBlock_rspValid (s : State) : (s.resetBlock).rspValid = State.reset.rspValid := rfl
@[simp] theorem resetBlock_tx (s : State) : (s.resetBlock).tx = State.reset.tx := rfl
@[simp] theorem resetBlock_hostOp (s : State) : (s.resetBlock).hostOp = State.reset.hostOp := rfl
@[simp] theorem resetBlock_requests (s : State) : (s.resetBlock).requests = s.requests := rfl
@[simp] theorem resetBlock_xportStatus (s : State) : (s.resetBlock).xportStatus = s.xportStatus := rfl
@[simp] theorem resetBlock_agenda (s : State) : (s.resetBlock).agenda = s.agenda := rfl

/-! ### statusEffect and raise -/

@[simp] theorem statusEffect_cfgRange (st : Status) (s : State) : (s.statusEffect st).cfgRange = s.cfgRange := by cases st <;> rfl
@[simp] theorem statusEffect_cfgRef (st : Status) (s : State) : (s.statusEffect st).cfgRef = s.cfgRef := by cases st <;> rfl
@[simp] theorem statusEffect_cfgVref (st : Status) (s : State) : (s.statusEffect st).cfgVref = s.cfgVref := by cases st <;> rfl
@[simp] theorem statusEffect_cmd (st : Status) (s : State) : (s.statusEffect st).cmd = s.cmd := by cases st <;> rfl
@[simp] theorem statusEffect_cfgPresent (st : Status) (s : State) : (s.statusEffect st).cfgPresent = s.cfgPresent := by cases st <;> rfl
@[simp] theorem statusEffect_got (st : Status) (s : State) : (s.statusEffect st).got = s.got := by cases st <;> rfl
@[simp] theorem statusEffect_gotPresent (st : Status) (s : State) : (s.statusEffect st).gotPresent = s.gotPresent := by cases st <;> rfl
@[simp] theorem statusEffect_attempt (st : Status) (s : State) : (s.statusEffect st).attempt = s.attempt := by cases st <;> rfl
@[simp] theorem statusEffect_rspStatus (st : Status) (s : State) : (s.statusEffect st).rspStatus = s.rspStatus := by cases st <;> rfl
@[simp] theorem statusEffect_rspCause (st : Status) (s : State) : (s.statusEffect st).rspCause = s.rspCause := by cases st <;> rfl
@[simp] theorem statusEffect_rspValue (st : Status) (s : State) : (s.statusEffect st).rspValue = s.rspValue := by cases st <;> rfl
@[simp] theorem statusEffect_rspVolts (st : Status) (s : State) : (s.statusEffect st).rspVolts = s.rspVolts := by cases st <;> rfl
@[simp] theorem statusEffect_rspPresent (st : Status) (s : State) : (s.statusEffect st).rspPresent = s.rspPresent := by cases st <;> rfl
@[simp] theorem statusEffect_rspValid (st : Status) (s : State) : (s.statusEffect st).rspValid = s.rspValid := by cases st <;> rfl
@[simp] theorem statusEffect_tx (st : Status) (s : State) : (s.statusEffect st).tx = s.tx := by cases st <;> rfl
@[simp] theorem statusEffect_hostOp (st : Status) (s : State) : (s.statusEffect st).hostOp = s.hostOp := by cases st <;> rfl
@[simp] theorem statusEffect_requests (st : Status) (s : State) : (s.statusEffect st).requests = s.requests := by cases st <;> rfl
@[simp] theorem statusEffect_xportStatus (st : Status) (s : State) : (s.statusEffect st).xportStatus = s.xportStatus := by cases st <;> rfl
@[simp] theorem statusEffect_agenda (st : Status) (s : State) : (s.statusEffect st).agenda = s.agenda := by cases st <;> rfl
theorem statusEffect_fsm (st : Status) (s : State) :
    (s.statusEffect st).fsm = if st = .configurationTimeout then .uninit else s.fsm := by cases st <;> rfl
theorem statusEffect_cfgValid (st : Status) (s : State) :
    (s.statusEffect st).cfgValid = if st = .configurationTimeout then false else s.cfgValid := by cases st <;> rfl

/-- A status other than the timeout changes nothing but the response (60 R236). -/
theorem statusEffect_eq_self (st : Status) (s : State) (h : st ≠ .configurationTimeout) : s.statusEffect st = s := by
  cases st <;> first | rfl | exact absurd rfl h

theorem raise_fsm (st : Status) (c : BitVec 2) (s : State) :
    (s.raise st c).fsm = if st = .configurationTimeout then .uninit else s.fsm := by cases st <;> rfl
theorem raise_cfgValid (st : Status) (c : BitVec 2) (s : State) :
    (s.raise st c).cfgValid = if st = .configurationTimeout then false else s.cfgValid := by cases st <;> rfl
@[simp] theorem raise_cfgRange (st : Status) (c : BitVec 2) (s : State) : (s.raise st c).cfgRange = s.cfgRange := by cases st <;> rfl
@[simp] theorem raise_cfgRef (st : Status) (c : BitVec 2) (s : State) : (s.raise st c).cfgRef = s.cfgRef := by cases st <;> rfl
@[simp] theorem raise_cfgVref (st : Status) (c : BitVec 2) (s : State) : (s.raise st c).cfgVref = s.cfgVref := by cases st <;> rfl
@[simp] theorem raise_cmd (st : Status) (c : BitVec 2) (s : State) : (s.raise st c).cmd = s.cmd := by cases st <;> rfl
@[simp] theorem raise_cfgPresent (st : Status) (c : BitVec 2) (s : State) : (s.raise st c).cfgPresent = s.cfgPresent := by cases st <;> rfl
@[simp] theorem raise_got (st : Status) (c : BitVec 2) (s : State) : (s.raise st c).got = s.got := by cases st <;> rfl
@[simp] theorem raise_gotPresent (st : Status) (c : BitVec 2) (s : State) : (s.raise st c).gotPresent = s.gotPresent := by cases st <;> rfl
@[simp] theorem raise_attempt (st : Status) (c : BitVec 2) (s : State) : (s.raise st c).attempt = s.attempt := by cases st <;> rfl
@[simp] theorem raise_rspStatus (st : Status) (c : BitVec 2) (s : State) : (s.raise st c).rspStatus = st := by cases st <;> rfl
@[simp] theorem raise_rspCause (st : Status) (c : BitVec 2) (s : State) : (s.raise st c).rspCause = c := by cases st <;> rfl
@[simp] theorem raise_rspValue (st : Status) (c : BitVec 2) (s : State) : (s.raise st c).rspValue = 0#16 := by cases st <;> rfl
@[simp] theorem raise_rspVolts (st : Status) (c : BitVec 2) (s : State) : (s.raise st c).rspVolts = 0#64 := by cases st <;> rfl
@[simp] theorem raise_rspPresent (st : Status) (c : BitVec 2) (s : State) : (s.raise st c).rspPresent = true := by cases st <;> rfl
@[simp] theorem raise_rspValid (st : Status) (c : BitVec 2) (s : State) : (s.raise st c).rspValid = true := by cases st <;> rfl
@[simp] theorem raise_tx (st : Status) (c : BitVec 2) (s : State) : (s.raise st c).tx = none := by cases st <;> rfl
@[simp] theorem raise_hostOp (st : Status) (c : BitVec 2) (s : State) : (s.raise st c).hostOp = none := by cases st <;> rfl
@[simp] theorem raise_requests (st : Status) (c : BitVec 2) (s : State) : (s.raise st c).requests = s.requests := by cases st <;> rfl
@[simp] theorem raise_xportStatus (st : Status) (c : BitVec 2) (s : State) : (s.raise st c).xportStatus = s.xportStatus := by cases st <;> rfl
@[simp] theorem raise_agenda (st : Status) (c : BitVec 2) (s : State) : (s.raise st c).agenda = s.agenda := by cases st <;> rfl

/-- Every status but the timeout raises to a plain response (60 R236). -/
theorem raise_eq_respond (st : Status) (c : BitVec 2) (s : State) (h : st ≠ .configurationTimeout) :
    s.raise st c = s.respond st c 0#16 0#64 := by rw [State.raise, statusEffect_eq_self st s h]

/-- The timeout clears `cfg_valid` and goes to UNINIT (41 R140, 60 R236). -/
theorem raise_timeout (c : BitVec 2) (s : State) :
    s.raise .configurationTimeout c =
      { s with cfgValid := false, fsm := .uninit }.respond .configurationTimeout c 0#16 0#64 := rfl

end Sys2Proof.Machine
end

