-- ==== Sys2Proof/Laws/Ops.lean ====
section
/-! SUPPORT. One lemma for each shared operation that says once everything it can do. Later proofs cite these
instead of unfolding the operation. -/

namespace Sys2Proof.Machine

/-- A request holds or is accepted, and nothing else (30 R80). -/
theorem acceptOrHold_next {i : Instr} {accept : State → State} {s t : State} :
    acceptOrHold i accept s = .next t ↔
      (s.occupied = true ∧ t = s.hold i) ∨ (s.occupied = false ∧ t = accept s) := by
  unfold acceptOrHold; cases s.occupied <;> simp [eq_comm]

theorem acceptOrHold_free {i : Instr} {accept : State → State} {s : State} (h : s.occupied = false) :
    acceptOrHold i accept s = .next (accept s) := by simp [acceptOrHold, h]

theorem acceptOrHold_occupied {i : Instr} {accept : State → State} {s : State} (h : s.occupied = true) :
    acceptOrHold i accept s = .next (s.hold i) := by simp [acceptOrHold, h]

/-- No request is in progress exactly when the block is not busy and nothing waits for an exchange (30 R80). -/
theorem occupied_false {s : State} :
    s.occupied = false ↔ fsmBusy s.fsm = false ∧ s.hostOp = none ∧ s.tx = none := by
  simp [State.occupied, and_assoc]

theorem fsmBusy_false {f : FsmState} : fsmBusy f = false ↔ f = .uninit ∨ f = .ready := by cases f <;> simp [fsmBusy]

/-- The transport checks never answer a timeout or OK (60 R234). -/
theorem transportVerdict_some {x : BitVec 2} {st : Status} (h : transportVerdict x = some st) :
    (st = .transportInitError ∧ (x = 1#2 ∨ x = 3#2)) ∨ (st = .configurationError ∧ x = 2#2) := by
  unfold transportVerdict at h
  split at h
  · rename_i hx; simp_all
  · split at h <;> simp_all

theorem transportVerdict_none {x : BitVec 2} : transportVerdict x = none ↔ x = 0#2 := by
  revert x; decide

/-- A checked frame is rejected by the transport's status or sent (43 R205). -/
theorem sendChecked_cases (o a : Byte) (d : BitVec 16) (op : HostOp) (s : State) :
    (∃ st, transportVerdict s.xportStatus = some st ∧ sendChecked o a d op s = s.raise st 0#2) ∨
    (s.xportStatus = 0#2 ∧ sendChecked o a d op s = s.startExchange (codecEncode o a d) (some op)) := by
  unfold sendChecked
  cases h : transportVerdict s.xportStatus with
  | some st => exact .inl ⟨st, rfl, rfl⟩
  | none => exact .inr ⟨transportVerdict_none.mp h, rfl⟩

/-- A sampling request is refused outside READY, and sends the NOP frame in READY (43 R207, R209). -/
theorem sampleAccepted_cases (op : HostOp) (s : State) :
    (s.fsm ≠ .ready ∧ sampleAccepted op s = s.raise .notReady 0#2) ∨
    (s.fsm = .ready ∧ sampleAccepted op s = sendChecked 0x00#8 0x00#8 0x0000#16 op s) := by
  unfold sampleAccepted
  by_cases h : s.fsm = .ready
  · exact .inr ⟨h, by rw [if_pos h]; rfl⟩
  · exact .inl ⟨h, by rw [if_neg h]⟩

/-- A range index that names a range is at most 8, and names it by the port's table (30 R81). -/
theorem inputRange?_some {i : BitVec 4} {r : InputRange} : inputRange? i = some r ↔ i = rangeIndex r := by
  revert i r
  intro i r
  constructor
  · cases r <;> revert i <;> decide
  · rintro rfl; cases r <;> rfl

theorem inputRange?_none {i : BitVec 4} : inputRange? i = none ↔ 8 < i.toNat := by
  revert i; decide

/-- What an accepted field check establishes of the configuration to load (43 R201). -/
theorem configureVerdict_ok {range : BitVec 4} {ref : RefMode} {vv : Bool} {v : F64} {r : InputRange}
    (h : configureVerdict range ref vv v = .ok r) :
    inputRange? range = some r ∧ (ref = .external → vv = true ∧ vrefValid v = true) := by
  unfold configureVerdict at h
  cases hr : inputRange? range with
  | none => simp [hr] at h
  | some r' =>
    cases ref with
    | internal => simp_all
    | external => cases vv <;> cases hv : vrefValid v <;> simp_all

/-- CONFIGURE is rejected with the state untouched but for the response, or loads the configuration (43 R201,
R202). -/
theorem configureAccepted_cases (range : BitVec 4) (ref : RefMode) (vv : Bool) (v : F64) (s : State) :
    (∃ st c, st ≠ .ok ∧ st ≠ .configurationTimeout ∧ (st ≠ .invalidConfiguration → c = 0#2) ∧
      configureAccepted range ref vv v s = s.raise st c) ∨
    (∃ r, configureVerdict range ref vv v = .ok r ∧ s.xportStatus = 0#2 ∧
      configureAccepted range ref vv v s = s.loadConfiguration range r ref v) := by
  unfold configureAccepted
  cases h : configureVerdict range ref vv v with
  | error c => exact .inl ⟨.invalidConfiguration, c, by simp, by simp, by simp, rfl⟩
  | ok r =>
    cases hx : transportVerdict s.xportStatus with
    | some st =>
      obtain ⟨rfl, -⟩ | ⟨rfl, -⟩ := transportVerdict_some hx
      · exact .inl ⟨_, 0#2, by simp, by simp, by simp, rfl⟩
      · exact .inl ⟨_, 0#2, by simp, by simp, by simp, rfl⟩
    | none => exact .inr ⟨r, rfl, transportVerdict_none.mp hx, rfl⟩

/-- Beginning a step lowers `rsp_valid` and takes the turn; the block stays as free as it was. -/
@[simp] theorem beginStep_occupied (s : State) : s.beginStep.occupied = s.occupied := rfl

/-- The port gives a request exactly when the block is free and one is presented (30 R80). -/
theorem fetch_some {s t : State} {w : PortWord} :
    s.fetch = some (w, t) ↔
      s.occupied = false ∧ ∃ ws, s.requests = w :: ws ∧ t = { s with requests := ws } := by
  unfold State.fetch
  cases s.occupied with
  | true => simp
  | false =>
    cases h : s.requests with
    | nil => simp
    | cons x xs =>
      simp only [Bool.false_eq_true, if_false, Option.some.injEq, Prod.mk.injEq, true_and, List.cons.injEq]
      constructor
      · rintro ⟨rfl, rfl⟩; exact ⟨xs, ⟨rfl, rfl⟩, rfl⟩
      · rintro ⟨ws, ⟨rfl, rfl⟩, rfl⟩; exact ⟨rfl, rfl⟩

theorem fetch_none {s : State} : s.fetch = none ↔ s.occupied = true ∨ s.requests = [] := by
  unfold State.fetch
  cases s.occupied <;> cases s.requests <;> simp

/-- While an exchange is in progress the block's turn changes nothing (60 R245). -/
theorem sequencerAction_exchange {s : State} {f : Frame} (h : s.tx = some f) : sequencerAction s = s := by
  simp [sequencerAction, h]

/-- CFG_CHECK converges, tries again or times out (41 R138, R140). -/
theorem cfgCheckAction_cases (bound : Nat) (s : State) :
    (s.got = s.cmd ∧ cfgCheckAction bound s = { s with fsm := .cfgFlush }) ∨
    (s.got ≠ s.cmd ∧ s.attempt < bound ∧ cfgCheckAction bound s = { s with fsm := .cfgWrite }) ∨
    (s.got ≠ s.cmd ∧ bound ≤ s.attempt ∧ cfgCheckAction bound s = s.raise .configurationTimeout 0#2) := by
  unfold cfgCheckAction
  by_cases he : s.got = s.cmd
  · exact .inl ⟨he, if_pos he⟩
  · by_cases hl : s.attempt < bound
    · exact .inr (.inl ⟨he, hl, by rw [if_neg he, if_pos hl]⟩)
    · exact .inr (.inr ⟨he, Nat.le_of_not_lt hl, by rw [if_neg he, if_neg hl]⟩)

/-- Everything the block's own action can do (41 R132): hold, begin the exchange of its state, or check. -/
theorem sequencerAction_cases (s : State) :
    sequencerAction s = s ∨
    (s.tx = none ∧ s.fsm = .cfgWrite ∧
      sequencerAction s = { s with attempt := s.attempt + 1 }.startExchange (codecEncode 0xD0#8 0x14#8 s.cmd) none) ∨
    (s.tx = none ∧ s.fsm = .cfgReadReq ∧
      sequencerAction s = s.startExchange (codecEncode 0xC8#8 0x14#8 0x0000#16) none) ∨
    (s.tx = none ∧ (s.fsm = .cfgNop ∨ s.fsm = .cfgFlush) ∧
      sequencerAction s = s.startExchange (codecEncode 0x00#8 0x00#8 0x0000#16) none) ∨
    (s.tx = none ∧ s.fsm = .cfgCheck ∧ sequencerAction s = cfgCheckAction Config.maxAttempts s) := by
  cases htx : s.tx with
  | some f => exact .inl (sequencerAction_exchange htx)
  | none =>
    cases hf : s.fsm with
    | uninit => exact .inl (by simp only [sequencerAction, htx, hf])
    | cfgWrite =>
      have h : sequencerAction s = cfgWriteAction s := by simp only [sequencerAction, htx, hf]
      rw [h, ← htx, ← hf]
      exact .inr (.inl ⟨rfl, rfl, rfl⟩)
    | cfgSettle1 => exact .inl (by simp only [sequencerAction, htx, hf])
    | cfgReadReq => exact .inr (.inr (.inl ⟨rfl, rfl, by simp only [sequencerAction, htx, hf]; rfl⟩))
    | cfgNop => exact .inr (.inr (.inr (.inl ⟨rfl, .inl rfl, by simp only [sequencerAction, htx, hf]; rfl⟩)))
    | cfgSettle2 => exact .inl (by simp only [sequencerAction, htx, hf])
    | cfgCheck => exact .inr (.inr (.inr (.inr ⟨rfl, rfl, by simp only [sequencerAction, htx, hf]⟩)))
    | cfgFlush => exact .inr (.inr (.inr (.inl ⟨rfl, .inr rfl, by simp only [sequencerAction, htx, hf]; rfl⟩)))
    | ready => exact .inl (by simp only [sequencerAction, htx, hf])

/-- The engine runs exactly on a valid configuration that is present, with a range the port names (42 R177). -/
theorem engineRange?_some {s : State} {r : InputRange} :
    engineRange? s = some r ↔ s.cfgValid = true ∧ s.cfgPresent = true ∧ s.cfgRange = rangeIndex r := by
  unfold engineRange?
  cases s.cfgValid <;> cases s.cfgPresent <;> simp [inputRange?_some]

/-- Everything a scaled read can answer once its exchange completes (43 R209, 42 R177). -/
theorem completeScaled_cases (raw : BitVec 16) (s : State) :
    (engineRange? s = none ∧ completeScaled raw s = s.raise .invalidConfiguration 2#2) ∨
    ∃ r, engineRange? s = some r ∧ completeScaled raw s = s.respond .ok 0#2 raw (scale raw r s.cfgVref) := by
  unfold completeScaled
  cases h : engineRange? s with
  | none => exact .inl ⟨rfl, rfl⟩
  | some r => exact .inr ⟨r, rfl, rfl⟩

/-- Everything the end of a caller's exchange can do (43 R205, R207, R209). -/
theorem completeHostOp_cases (v : BitVec 16) (s : State) :
    (s.hostOp = none ∧ completeHostOp v s = { s with tx := none }) ∨
    (s.hostOp = some .raw ∧ completeHostOp v s = s.respond .ok 0#2 v 0#64) ∨
    (s.hostOp = some .scaled ∧ completeHostOp v s = completeScaled v s) := by
  unfold completeHostOp
  cases s.hostOp with
  | none => exact .inl ⟨rfl, rfl⟩
  | some op =>
    cases op with
    | raw => exact .inr (.inl ⟨rfl, rfl⟩)
    | scaled => exact .inr (.inr ⟨rfl, rfl⟩)

/-- Everything the end of an exchange can do (41 R132, 43 R212). -/
theorem completeExchange_cases (rx : Frame) (s : State) :
    ((s.fsm = .uninit ∨ s.fsm = .ready) ∧ completeExchange rx s = completeHostOp (codecDecode rx) s) ∨
    (s.fsm = .cfgWrite ∧ completeExchange rx s = { s with tx := none, fsm := .cfgSettle1 }) ∨
    (s.fsm = .cfgReadReq ∧ completeExchange rx s = { s with tx := none, fsm := .cfgNop }) ∨
    (s.fsm = .cfgNop ∧
      completeExchange rx s = { s with tx := none, got := codecDecode rx, gotPresent := true, fsm := .cfgSettle2 }) ∨
    (s.fsm = .cfgFlush ∧
      completeExchange rx s = { s with fsm := .ready }.respond .ok 0#2 (attemptValue s.attempt) 0#64) ∨
    ((s.fsm = .cfgSettle1 ∨ s.fsm = .cfgSettle2 ∨ s.fsm = .cfgCheck) ∧ completeExchange rx s = { s with tx := none }) := by
  unfold completeExchange
  cases s.fsm <;> simp

/-- A return completes the exchange in progress, and is ignored with none (60 R245). -/
theorem transportReturn_cases (rx : Frame) (s : State) :
    (s.tx = none ∧ transportReturn rx s = s) ∨
    ∃ f, s.tx = some f ∧ transportReturn rx s = completeExchange rx s := by
  unfold transportReturn
  cases s.tx with
  | none => exact .inl ⟨rfl, rfl⟩
  | some f => exact .inr ⟨f, rfl, rfl⟩

/-- The settle signal moves one of the two settle states on, after at least the interval, or changes nothing
(60 R250). -/
theorem settleSignal_cases (bound elapsed : Nat) (s : State) :
    settleSignal bound elapsed s = s ∨
    (bound ≤ elapsed ∧ s.tx = none ∧ s.fsm = .cfgSettle1 ∧
      settleSignal bound elapsed s = { s with fsm := .cfgReadReq }) ∨
    (bound ≤ elapsed ∧ s.tx = none ∧ s.fsm = .cfgSettle2 ∧
      settleSignal bound elapsed s = { s with fsm := .cfgCheck }) := by
  unfold settleSignal
  by_cases hb : bound ≤ elapsed
  · cases htx : s.tx <;> cases hf : s.fsm <;> simp [hb]
  · simp [hb]

/-- A step is one turn (00_scope R17). -/
theorem step_cases {s t : State} (h : step s = .next t) :
    (s.turn = .block ∧ blockTurn s.beginStep = .next t) ∨
    (∃ w, s.turn = .caller w ∧ t = s.beginStep.present w) ∨
    (∃ rx, s.turn = .transport rx ∧ t = transportReturn rx s.beginStep) ∨
    (∃ n, s.turn = .settle n ∧ t = settleSignal Config.tSettle n s.beginStep) ∨
    (∃ x, s.turn = .xport x ∧ t = { s.beginStep with xportStatus := x }) ∨
    (s.turn = .reset ∧ t = s.beginStep.resetBlock) := by
  unfold step at h
  cases ht : s.turn <;> simp only [ht, Host.Outcome.next.injEq] at h <;> first | subst h; simp | simp [h]

end Sys2Proof.Machine
end

