-- ==== Sys2Proof/Tests/Slice0.lean ====
section
/-! SUPPORT. The model's own tests: the checks of WellFormed, the decoder on words written out from the spec's
encodings, one step of each instruction and of each sequencer state with results from 95_test_vectors, and a
witness for the hypotheses of each statement. -/

namespace Sys2Proof.Tests

-- One thread: the concrete evaluations below would otherwise each start a thread of their own.
set_option Elab.async false

open Sys2Proof.Machine

/-! ### States the tests use -/

/-- READY with BIP_0P625 and the Internal reference (95 section 5). -/
def ready : State :=
  { State.reset with
    fsm := .ready, cfgValid := true, cfgPresent := true, cfgRange := 4#4, cfgRef := .internal
    cfgVref := Config.vrefInternal, cmd := commandWord .bip0p625 .internal, attempt := 1 }

/-- READY with UNI_1P25 and an External reference of 5.0 (95 B25). -/
def readyExternal : State :=
  { State.reset with
    fsm := .ready, cfgValid := true, cfgPresent := true, cfgRange := 8#4, cfgRef := .external
    cfgVref := 0x4014000000000000#64, cmd := commandWord .uni1p25 .external, attempt := 1 }

/-- The sequencer in a state of iteration 1, with `cmd` 0x0004 and a read-back (95 section 8, P1). -/
def sequencing (f : FsmState) (tx : Option Frame) (got : BitVec 16) : State :=
  { State.reset with
    fsm := f, tx := tx, cfgValid := true, cfgPresent := true, cfgRange := 4#4
    cfgVref := Config.vrefInternal, cmd := 0x0004#16, attempt := 1, got := got, gotPresent := true }

/-- The frame a step puts on the transport interface. -/
def sent (o : Host.Outcome State Fault Refusal) : Option Frame := (nextState? o).bind (·.tx)

/-- The response a step completes with: status, cause, value and voltage. -/
def answer (o : Host.Outcome State Fault Refusal) : Option (Status × BitVec 2 × BitVec 16 × F64) :=
  (nextState? o).bind fun s =>
    if s.rspValid then some (s.rspStatus, s.rspCause, s.rspValue, s.rspVolts) else none

/-- The `fsm_state` after a step. -/
def fsmAfter (o : Host.Outcome State Fault Refusal) : Option FsmState := (nextState? o).map (·.fsm)

/-! ### WellFormed -/

/-- 30 R75: 0xD0 is WRITE, no unnamed opcode. -/
theorem test_wellFormed_refuses_named_opcode : (Instr.unnamedOpcode 0xD0#8 0x14#8 0x0004#16).wellFormed = false := by
  decide

/-- 30 R73, R75: each of the eight named bytes is refused as an unnamed opcode. -/
theorem test_wellFormed_refuses_every_named_opcode (c : DeviceCommand) :
    (Instr.unnamedOpcode (commandOpcode c) 0x00#8 0x0000#16).wellFormed = false := by cases c <;> rfl

theorem test_wellFormed_accepts_unnamed_opcode : (Instr.unnamedOpcode 0x01#8 0x80#8 0x8001#16).wellFormed = true := by
  decide

/-! ### Decoding words written out from the spec's encodings (30 R71, R73, R79; 95 section 2.4) -/

theorem test_decode_nop : decodeTableWord 32 0x00000000 = some (.nop 0x00#8 0x0000#16) := by decide
theorem test_decode_read : decodeTableWord 32 0x48201234 = some (.read 0x20#8 0x1234#16) := by decide
theorem test_decode_readHword : decodeTableWord 32 0xC8140000 = some (.readHword 0x14#8 0x0000#16) := by decide
theorem test_decode_write : decodeTableWord 32 0xD0140004 = some (.write 0x14#8 0x0004#16) := by decide
theorem test_decode_writeMsbyte : decodeTableWord 32 0xD214AB00 = some (.writeMsbyte 0x14#8 0xAB00#16) := by decide
theorem test_decode_writeLsbyte : decodeTableWord 32 0xD41400CD = some (.writeLsbyte 0x14#8 0x00CD#16) := by decide
theorem test_decode_setHword : decodeTableWord 32 0xD8140040 = some (.setHword 0x14#8 0x0040#16) := by decide
theorem test_decode_clearHword : decodeTableWord 32 0xC0140040 = some (.clearHword 0x14#8 0x0040#16) := by decide
theorem test_decode_unnamedOpcode : decodeTableWord 32 0x01808001 = some (.unnamedOpcode 0x01#8 0x80#8 0x8001#16) := by decide
theorem test_decode_configure : decodeTableWord 8 0b000 = some (.configure 0#4 .internal false 0#64) := by decide
theorem test_decode_sendRaw : decodeTableWord 8 0b001 = some (.sendRaw 0x00#8 0x00#8 0x0000#16) := by decide
theorem test_decode_readRaw : decodeTableWord 8 0b010 = some (.readRaw) := by decide
theorem test_decode_readScaled : decodeTableWord 8 0b011 = some (.readScaled) := by decide
theorem test_decode_reserved100 : decodeTableWord 8 0b100 = some (.reserved100) := by decide
theorem test_decode_reserved101 : decodeTableWord 8 0b101 = some (.reserved101) := by decide
theorem test_decode_reserved110 : decodeTableWord 8 0b110 = some (.reserved110) := by decide
theorem test_decode_reserved111 : decodeTableWord 8 0b111 = some (.reserved111) := by decide

/-- 30 R77, R81-R83: the operand fields of CONFIGURE UNI_1P25, EXT, 5.0 reach the instruction. -/
theorem test_decode_configure_fields :
    decodePort (.req (assemble (.configure (.named .uni1p25) .external (some (.bits 0x4014000000000000#64))))) =
      .configure 8#4 .external true 0x4014000000000000#64 := by decide

/-- 30 R77: the operand fields of SEND_RAW reach the instruction, through the bytes of the bundle. -/
theorem test_decode_sendRaw_fields :
    decodeBytes (encodeBytes (.sendRaw 0xC8#8 0x14#8 0x1234#16)) = .ok (.sendRaw 0xC8#8 0x14#8 0x1234#16) := by decide

theorem test_decode_rejects_three_bytes : decodeBytes [0xD0#8, 0x14#8, 0x00#8] = .error (.badLength 3) := by decide

theorem test_decode_rejects_stray_bits :
    decodeBytes (List.replicate 13 0#8 ++ [0x80#8]) = .error .strayBits := by decide

/-! ### The codec (95 sections 2.1, 2.2) -/

theorem test_codec_encodes_high_byte_first : codecEncode 0x48#8 0x20#8 0x1234#16 = ⟨0x48#8, 0x20#8, 0x12#8, 0x34#8⟩ := by
  decide

theorem test_codec_decodes_bytes_zero_and_one : codecDecode ⟨0x12#8, 0x34#8, 0x56#8, 0x78#8⟩ = 0x1234#16 := by decide

/-! ### One step of each instruction -/

/-- 95 section 2.4, R107. -/
theorem test_nop_sends : sent (exec (.nop 0x00#8 0x0000#16) State.reset) = some ⟨0x00#8, 0x00#8, 0x00#8, 0x00#8⟩ := by decide

/-- 95 section 2.4, R108. -/
theorem test_read_sends : sent (exec (.read 0x14#8 0x0000#16) State.reset) = some ⟨0x48#8, 0x14#8, 0x00#8, 0x00#8⟩ := by decide

/-- 95 section 2.4, R109. -/
theorem test_readHword_sends : sent (exec (.readHword 0x14#8 0x0000#16) State.reset) = some ⟨0xC8#8, 0x14#8, 0x00#8, 0x00#8⟩ := by decide

/-- 95 section 2.4, R110. -/
theorem test_write_sends : sent (exec (.write 0x14#8 0x0004#16) State.reset) = some ⟨0xD0#8, 0x14#8, 0x00#8, 0x04#8⟩ := by decide

/-- 95 section 2.4, R111. -/
theorem test_writeMsbyte_sends : sent (exec (.writeMsbyte 0x14#8 0xAB00#16) State.reset) = some ⟨0xD2#8, 0x14#8, 0xAB#8, 0x00#8⟩ := by decide

/-- 95 section 2.4, R112. -/
theorem test_writeLsbyte_sends : sent (exec (.writeLsbyte 0x14#8 0x00CD#16) State.reset) = some ⟨0xD4#8, 0x14#8, 0x00#8, 0xCD#8⟩ := by decide

/-- 95 section 2.4, R113. -/
theorem test_setHword_sends : sent (exec (.setHword 0x14#8 0x0040#16) State.reset) = some ⟨0xD8#8, 0x14#8, 0x00#8, 0x40#8⟩ := by decide

/-- 95 section 2.4, R114. -/
theorem test_clearHword_sends : sent (exec (.clearHword 0x14#8 0x0040#16) State.reset) = some ⟨0xC0#8, 0x14#8, 0x00#8, 0x40#8⟩ := by decide

/-- 95 section 2.4, R104; B18. -/
theorem test_unnamedOpcode_sends : sent (exec (.unnamedOpcode 0x01#8 0x80#8 0x8001#16) State.reset) = some ⟨0x01#8, 0x80#8, 0x80#8, 0x01#8⟩ := by decide

/-- 95 section 2.4, R205; B17. -/
theorem test_sendRaw_sends : sent (exec (.sendRaw 0xC8#8 0x14#8 0x0000#16) State.reset) = some ⟨0xC8#8, 0x14#8, 0x00#8, 0x00#8⟩ := by decide

/-- 95 B19: SEND_RAW with `xport_status` 2. -/
theorem test_sendRaw_bad_selection :
    answer (exec (.sendRaw 0x00#8 0x00#8 0x0000#16) { State.reset with xportStatus := 2#2 }) =
      some (.configurationError, 0#2, 0#16, 0#64) := by decide

/-- 95 B14, B16: NOT_READY comes before the transport's status. -/
theorem test_readRaw_not_ready :
    answer (exec .readRaw { State.reset with xportStatus := 1#2 }) = some (.notReady, 0#2, 0#16, 0#64) := by decide

/-- 95 B22. -/
theorem test_readRaw_sends : sent (exec .readRaw ready) = some ⟨0x00#8, 0x00#8, 0x00#8, 0x00#8⟩ := by decide

/-- 95 B26. -/
theorem test_readScaled_transport_failed :
    answer (exec .readScaled { ready with xportStatus := 1#2 }) = some (.transportInitError, 0#2, 0#16, 0#64) := by decide

/-- 95 B23: the response `00 00 12 34` gives 0x0000 and -2.56. -/
theorem test_readScaled_answers :
    answer (step { ready with
        tx := some ⟨0#8, 0#8, 0#8, 0#8⟩, hostOp := some .scaled, agenda := [.transport ⟨0x00#8, 0x00#8, 0x12#8, 0x34#8⟩] }) =
      some (.ok, 0#2, 0x0000#16, 0xC0047AE147AE147B#64) := by decide +kernel

/-- 95 B3: External without a voltage. -/
theorem test_configure_missing_voltage :
    answer (exec (.configure 8#4 .external false 0#64) State.reset) =
      some (.invalidConfiguration, 1#2, 0#16, 0#64) := by decide

/-- 95 B13: the field check comes before the transport's status. -/
theorem test_configure_bad_range :
    answer (exec (.configure 9#4 .internal false 0#64) { State.reset with xportStatus := 1#2 }) =
      some (.invalidConfiguration, 0#2, 0#16, 0#64) := by decide

/-- 95 B9: with INT the voltage fields are ignored, a NaN among them. -/
theorem test_configure_internal_loads :
    (nextState? (exec (.configure 0#4 .internal true 0x7FF8000000000000#64) State.reset)).map
      (fun s => (s.fsm, s.cfgRange, s.cfgRef, s.cfgVref)) =
      some (.cfgWrite, 0#4, .internal, 0x4010624DD2F1A9FC#64) := by decide

/-- 95 B20. -/
theorem test_reserved100_rejected :
    answer (exec .reserved100 State.reset) = some (.invalidRequest, 0#2, 0#16, 0#64) := by decide

theorem test_reserved101_rejected :
    answer (exec .reserved101 State.reset) = some (.invalidRequest, 0#2, 0#16, 0#64) := by decide

theorem test_reserved110_rejected :
    answer (exec .reserved110 State.reset) = some (.invalidRequest, 0#2, 0#16, 0#64) := by decide

/-- 95 B21: the reserved code comes before the transport's status. -/
theorem test_reserved111_rejected :
    answer (exec .reserved111 { ready with xportStatus := 1#2 }) = some (.invalidRequest, 0#2, 0#16, 0#64) := by decide

/-- 95 B17: the transport's return `12 34 56 78` ends a SEND_RAW with 0x1234. -/
theorem test_transport_return_answers :
    answer (step { State.reset with
        tx := some ⟨0xC8#8, 0x14#8, 0#8, 0#8⟩, hostOp := some .raw
        agenda := [.transport ⟨0x12#8, 0x34#8, 0x56#8, 0x78#8⟩] }) = some (.ok, 0#2, 0x1234#16, 0#64) := by decide

/-! ### The sequencer, one step of each state (95 section 8, P1) -/

theorem test_cfgWrite_sends : sent (step (sequencing .cfgWrite none 0#16)) = some ⟨0xD0#8, 0x14#8, 0x00#8, 0x04#8⟩ := by
  decide

theorem test_cfgReadReq_sends :
    sent (step (sequencing .cfgReadReq none 0#16)) = some ⟨0xC8#8, 0x14#8, 0x00#8, 0x00#8⟩ := by decide

theorem test_cfgNop_captures :
    (nextState? (step { sequencing .cfgNop (some ⟨0#8, 0#8, 0#8, 0#8⟩) 0#16 with
        agenda := [.transport ⟨0x00#8, 0x04#8, 0xAA#8, 0x55#8⟩] })).map (fun s => (s.got, s.fsm)) =
      some (0x0004#16, .cfgSettle2) := by decide

/-- 41 R134: a settle state never advances on the block's own turn. -/
theorem test_settle_holds : fsmAfter (step (sequencing .cfgSettle1 none 0#16)) = some .cfgSettle1 := by decide

theorem test_settle_advances : settleSignal 20 20 (sequencing .cfgSettle2 none 0#16) = sequencing .cfgCheck none 0#16 := by
  decide

theorem test_settle_too_early : settleSignal 20 19 (sequencing .cfgSettle2 none 0#16) = sequencing .cfgSettle2 none 0#16 := by
  decide

theorem test_check_converges : fsmAfter (.next (cfgCheckAction 1 (sequencing .cfgCheck none 0x0004#16))) = some .cfgFlush := by decide

/-- 95 S3: a set bit the spec does not know is a mismatch. -/
theorem test_check_retries : fsmAfter (.next (cfgCheckAction 2 (sequencing .cfgCheck none 0x8004#16))) = some .cfgWrite := by decide

/-- 95 S2: the last attempt times out. -/
theorem test_check_times_out :
    answer (.next (cfgCheckAction 1 (sequencing .cfgCheck none 0x0000#16))) =
      some (.configurationTimeout, 0#2, 0#16, 0#64) := by decide

theorem test_flush_ends :
    answer (step { sequencing .cfgFlush (some ⟨0#8, 0#8, 0#8, 0#8⟩) 0x0004#16 with
        agenda := [.transport ⟨0x00#8, 0x04#8, 0x00#8, 0x00#8⟩] }) = some (.ok, 0#2, 0x0001#16, 0#64) := by decide

/-- 95 RS2: a reset in CFG_SETTLE1 leaves UNINIT and no response. -/
theorem test_reset_abandons :
    nextState? (step { sequencing .cfgSettle1 none 0#16 with agenda := [.reset] }) = some State.reset := by decide

/-- 42 R177, 10 R36: the engine takes no reset value for a configuration that is absent. -/
theorem test_scaled_without_configuration :
    answer (.next (completeScaled 0xFFFF#16 { ready with cfgPresent := false })) =
      some (.invalidConfiguration, 2#2, 0#16, 0#64) := by decide

/-! ### The scaling engine (95 sections 1 and 3; one code per range and the extremes) -/

theorem test_scale_BIP_3 : scale 0x0001#16 .bip3 0x4010624DD2F1A9FC#64 = 0xC0289343954FDF0B#64 := by decide +kernel
theorem test_scale_BIP_2P5 : scale 0xFFFE#16 .bip2p5 0x4010624DD2F1A9FC#64 = 0x40247AB851C28F33#64 := by decide +kernel
theorem test_scale_BIP_1P5 : scale 0x7FFF#16 .bip1p5 0x4010624DD2F1A9FC#64 = 0xBF18938D4FF7CEF2#64 := by decide +kernel
theorem test_scale_BIP_1P25 : scale 0x8000#16 .bip1p25 0x4010624DD2F1A9FC#64 = 0x3F147AF5C2A3D71F#64 := by decide +kernel
theorem test_scale_BIP_0P625 : scale 0x0001#16 .bip0p625 0x4014000000000000#64 = 0xC008FFCDFFCDFFCE#64 := by decide +kernel
theorem test_scale_UNI_3 : scale 0x7FFF#16 .uni3 0x4010624DD2F1A9FC#64 = 0x4018935C28DD2F02#64 := by decide +kernel
theorem test_scale_UNI_2P5 : scale 0x8000#16 .uni2p5 0x4010624DD2F1A9FC#64 = 0x40147AF5C2A3D71F#64 := by decide +kernel
theorem test_scale_UNI_1P5 : scale 0x8000#16 .uni1p5 0x4010624DD2F1A9FC#64 = 0x4008938D4FF7CEF2#64 := by decide +kernel
theorem test_scale_UNI_1P25 : scale 0x8000#16 .uni1p25 0x4014000000000000#64 = 0x4009001900190019#64 := by decide +kernel
theorem test_scale_extreme_low : scale 0x0001#16 .uni1p25 0x07B0000000000000#64 = 0x06B4001400140014#64 := by decide +kernel
theorem test_scale_extreme_high : scale 0xFFFF#16 .bip3 0x7830000000000000#64 = 0x7848000000000000#64 := by decide +kernel

/-- 00 R7: the binary64 number nearest the decimal 4.096. -/
theorem test_decimal_vref : decimalToF64 false 4096 3 = Config.vrefInternal := by decide +kernel

/-- 95 section 3.4: 2^-901 and 2^901 fail VREF_VALID; 2^-900 and 2^900 pass. -/
theorem test_vrefValid_ends :
    (vrefValid 0x07A0000000000000#64, vrefValid 0x07B0000000000000#64, vrefValid 0x7830000000000000#64,
      vrefValid 0x7840000000000000#64) = (false, true, true, false) := by decide +kernel

/-- 95 B4-B6, P4: 0.0, -5.0, NaN and +∞ fail VREF_VALID. -/
theorem test_vrefValid_special :
    (vrefValid 0x0000000000000000#64, vrefValid 0xC014000000000000#64, vrefValid 0x7FF8000000000000#64,
      vrefValid 0x7FF0000000000000#64) = (false, false, false, false) := by decide +kernel

/-! ### Words presented after reset -/

/-- A command frame presented at the port is the first instruction after reset. -/
theorem test_fetch_write_after_reset :
    sent (step (State.reset.withFetchWord 32 0xD0140004)) = some ⟨0xD0#8, 0x14#8, 0x00#8, 0x04#8⟩ := by decide

/-- So is a request. -/
theorem test_fetch_reserved_after_reset :
    answer (step (State.reset.withFetchWord 8 4)) = some (.invalidRequest, 0#2, 0#16, 0#64) := by decide

/-! ### Witnesses: the hypotheses of each statement are met together -/

theorem witness_DecodeBytesInvertsEncodeBytes :
    (Instr.unnamedOpcode 0xFF#8 0xFF#8 0xFFFF#16).wellFormed = true := by decide

theorem witness_UnusedRequestFieldsAreIgnored :
    ({ bareRequest 0#3 with opcode := 1#8, range := 15#4 } : Request).op = ({ bareRequest 0#3 with range := 15#4 } : Request).op ∧
    ({ bareRequest 0#3 with opcode := 1#8, range := 15#4 } : Request) ≠ { bareRequest 0#3 with range := 15#4 } ∧
    ({ bareRequest 1#3 with opcode := 1#8, range := 15#4 } : Request) ≠ { bareRequest 1#3 with opcode := 1#8 } ∧
    ({ bareRequest 7#3 with vref := 1#64 } : Request) ≠ bareRequest 7#3 := by decide

theorem witness_ShorthandsActAsSendRaw :
    State.reset.occupied = false ∧ ready.occupied = false := by decide

theorem witness_StepRunsTheDecodedRequest :
    State.turn { State.reset with requests := [encodePort .readRaw] } = .block ∧
    State.occupied { State.reset with requests := [encodePort .readRaw] } = false ∧
    State.turn { ready with requests := [.req (bareRequest 7#3)], agenda := [.block, .reset] } = .block ∧
    State.occupied { ready with requests := [.req (bareRequest 7#3)], agenda := [.block, .reset] } = false := by decide

theorem witness_PresentedTableWordRunsNext :
    decodeTableWord 32 0xFFFFFFFF = some (.unnamedOpcode 0xFF#8 0xFF#8 0xFFFF#16) ∧ decodeTableWord 8 3 = some .readScaled := by decide

theorem witness_RequestsHoldWhileOneIsInProgress :
    (sequencing .cfgCheck none 0#16).occupied = true ∧
    State.occupied { State.reset with tx := some ⟨0#8, 0#8, 0#8, 0#8⟩, hostOp := some .raw } = true ∧
    (nextState? (step { sequencing .cfgSettle1 none 0#16 with agenda := [.caller (.req (bareRequest 2#3))] })).isSome = true := by decide

theorem witness_EveryRequestGetsAVerdict :
    State.reset.occupied = false ∧ ready.occupied = false := by decide

theorem witness_NamedCommandsSendTheirFrame :
    State.reset.occupied = false ∧ State.reset.xportStatus = 0#2 ∧ ready.occupied = false ∧ ready.xportStatus = 0#2 := by decide

theorem witness_UnnamedOpcodesSendTheirFrame :
    State.reset.occupied = false ∧ State.reset.xportStatus = 0#2 := by decide

theorem witness_CommandFramesRejectedByTransport :
    State.occupied { State.reset with xportStatus := 1#2 } = false ∧ State.occupied { ready with xportStatus := 2#2 } = false ∧
    State.occupied { State.reset with xportStatus := 3#2 } = false := by decide

theorem witness_SendRawFollowsItsRule :
    State.reset.occupied = false ∧ State.reset.xportStatus = 0#2 ∧
    State.occupied { State.reset with xportStatus := 1#2 } = false ∧ State.occupied { ready with xportStatus := 2#2 } = false ∧
    State.occupied { State.reset with xportStatus := 3#2 } = false := by decide

theorem witness_ReadRawFollowsItsRule :
    State.reset.occupied = false ∧ State.reset.fsm ≠ .ready ∧ ready.occupied = false ∧ ready.fsm = .ready ∧
    ready.xportStatus = 0#2 ∧ State.occupied { ready with xportStatus := 1#2 } = false ∧
    State.occupied { ready with xportStatus := 2#2 } = false ∧ State.occupied { ready with xportStatus := 3#2 } = false := by decide

theorem witness_ReadScaledFollowsItsRule :
    State.reset.occupied = false ∧ State.reset.fsm ≠ .ready ∧ ready.occupied = false ∧ ready.cfgValid = true ∧ ready.cfgPresent = true ∧ ready.cfgRange = rangeIndex .bip0p625 ∧
    ready.fsm = .ready ∧ ready.xportStatus = 0#2 ∧
    State.occupied { ready with xportStatus := 1#2 } = false ∧ State.occupied { ready with xportStatus := 2#2 } = false ∧
    State.occupied { ready with xportStatus := 3#2 } = false ∧
    readyExternal.occupied = false ∧ readyExternal.cfgValid = true ∧ readyExternal.cfgPresent = true ∧
    readyExternal.cfgRange = rangeIndex .uni1p25 ∧ readyExternal.fsm = .ready ∧ readyExternal.xportStatus = 0#2 := by decide

theorem witness_ReadRawIsSendRawNopInReady :
    ready.fsm = .ready ∧ ready.occupied = false := by decide

theorem witness_ConfigureChecksInOrder :
    State.reset.occupied = false ∧ 8 < (9#4).toNat ∧ 8 < (15#4).toNat ∧ (8#4).toNat ≤ 8 ∧ (0#4).toNat ≤ 8 ∧
    vrefValid 0x7840000000000000#64 = false ∧ vrefValid 0x07A0000000000000#64 = false ∧
    vrefValid 0x7830000000000000#64 = true ∧
    State.occupied { State.reset with xportStatus := 1#2 } = false ∧ State.occupied { ready with xportStatus := 2#2 } = false ∧
    State.occupied { State.reset with xportStatus := 3#2 } = false := by decide +kernel

theorem witness_ConfigureLoadsAndStarts :
    State.reset.occupied = false ∧ State.reset.xportStatus = 0#2 ∧ ready.occupied = false ∧ ready.xportStatus = 0#2 ∧
    (RefMode.external = .external → true = true ∧ vrefValid 0x07B0000000000000#64 = true) ∧
    (RefMode.internal = .external → false = true ∧ vrefValid 0#64 = true) := by decide +kernel

theorem witness_InternalReferenceIgnoresVoltage :
    State.reset.occupied = false := by decide

theorem witness_ReservedCodesAreInvalidRequests :
    State.reset.occupied = false ∧ ready.occupied = false ∧ (sequencing .cfgNop none 0#16).occupied = true := by decide

theorem witness_CfgWriteSendsCommand :
    (sequencing .cfgWrite none 0#16).fsm = .cfgWrite ∧ (sequencing .cfgWrite none 0#16).tx = none ∧ (sequencing .cfgWrite none 0#16).hostOp = none ∧
    (sequencing .cfgWrite none 0#16).cfgPresent = true ∧ (sequencing .cfgWrite none 0#16).turn = .block := by decide

theorem witness_CfgReadReqSendsReadHword :
    (sequencing .cfgReadReq none 0#16).fsm = .cfgReadReq ∧ (sequencing .cfgReadReq none 0#16).tx = none ∧ (sequencing .cfgReadReq none 0#16).hostOp = none ∧
    (sequencing .cfgReadReq none 0#16).cfgPresent = true ∧ (sequencing .cfgReadReq none 0#16).turn = .block := by decide

theorem witness_CfgNopCapturesTheReadBack :
    (sequencing .cfgNop none 0#16).fsm = .cfgNop ∧ (sequencing .cfgNop none 0#16).tx = none ∧ (sequencing .cfgNop none 0#16).hostOp = none ∧
    (sequencing .cfgNop none 0#16).cfgPresent = true ∧ (sequencing .cfgNop none 0#16).turn = .block := by decide

theorem witness_CfgFlushEndsReady :
    (sequencing .cfgFlush none 0#16).fsm = .cfgFlush ∧ (sequencing .cfgFlush none 0#16).tx = none ∧ (sequencing .cfgFlush none 0#16).hostOp = none ∧
    (sequencing .cfgFlush none 0#16).cfgPresent = true ∧ (sequencing .cfgFlush none 0#16).turn = .block ∧
    State.fsm { sequencing .cfgFlush none 0#16 with attempt := 65536 } = .cfgFlush ∧
    State.turn { sequencing .cfgFlush none 0#16 with attempt := 65536 } = .block := by decide

theorem witness_SettleStatesWaitForTheInterval :
    (sequencing .cfgSettle1 none 0#16).tx = none ∧ (sequencing .cfgSettle1 none 0#16).fsm = .cfgSettle1 ∧
    (sequencing .cfgSettle2 none 0#16).tx = none ∧ (sequencing .cfgSettle2 none 0#16).fsm = .cfgSettle2 ∧
    Config.tSettle ≤ Config.tSettle ∧ Config.settleLess1 < Config.tSettle ∧ 0 < Config.tSettle := by
  refine ⟨rfl, rfl, rfl, rfl, Nat.le_refl _, Nat.lt_succ_self _, Nat.succ_pos _⟩

theorem witness_CfgCheckComparesExactly :
    (sequencing .cfgCheck none 0x0004#16).fsm = .cfgCheck ∧ (sequencing .cfgCheck none 0x0004#16).tx = none ∧
    (sequencing .cfgCheck none 0x0004#16).gotPresent = true ∧ (sequencing .cfgCheck none 0x0004#16).cfgPresent = true ∧
    (sequencing .cfgCheck none 0x0004#16).turn = .block ∧
    (sequencing .cfgCheck none 0x0004#16).got = (sequencing .cfgCheck none 0x0004#16).cmd ∧
    (sequencing .cfgCheck none 0x8004#16).got ≠ (sequencing .cfgCheck none 0x8004#16).cmd ∧
    State.attempt { sequencing .cfgCheck none 0x8004#16 with attempt := Config.retries } < Config.maxAttempts := by
  refine ⟨rfl, rfl, rfl, rfl, rfl, rfl, by decide, Nat.lt_succ_self _⟩

theorem witness_LastMismatchTimesOut :
    State.fsm { sequencing .cfgCheck none 0x8004#16 with attempt := Config.maxAttempts } = .cfgCheck ∧
    State.tx { sequencing .cfgCheck none 0x8004#16 with attempt := Config.maxAttempts } = none ∧
    State.hostOp { sequencing .cfgCheck none 0x8004#16 with attempt := Config.maxAttempts } = none ∧
    State.gotPresent { sequencing .cfgCheck none 0x8004#16 with attempt := Config.maxAttempts } = true ∧
    State.cfgPresent { sequencing .cfgCheck none 0x8004#16 with attempt := Config.maxAttempts } = true ∧
    State.turn { sequencing .cfgCheck none 0x8004#16 with attempt := Config.maxAttempts } = .block ∧
    State.got { sequencing .cfgCheck none 0x8004#16 with attempt := Config.maxAttempts } ≠ 0x0004#16 ∧
    State.cmd { sequencing .cfgCheck none 0x8004#16 with attempt := Config.maxAttempts } = 0x0004#16 ∧
    State.attempt { sequencing .cfgCheck none 0x8004#16 with attempt := Config.maxAttempts } = Config.maxAttempts := by
  refine ⟨rfl, rfl, rfl, rfl, rfl, rfl, (show (0x8004#16 : BitVec 16) ≠ 0x0004#16 by decide), rfl, rfl⟩

theorem witness_SequencerTransitionsAreTheTable :
    fsmAfter (step { sequencing .cfgWrite (some ⟨0xD0#8, 0x14#8, 0x00#8, 0x04#8⟩) 0#16 with
      agenda := [.transport ⟨0#8, 0#8, 0#8, 0#8⟩] }) = some .cfgSettle1 ∧
    fsmAfter (step (sequencing .cfgCheck none 0x0004#16)) = some .cfgFlush ∧
    fsmAfter (step { sequencing .cfgFlush (some ⟨0#8, 0#8, 0#8, 0#8⟩) 0x0004#16 with
      agenda := [.transport ⟨0#8, 0#8, 0#8, 0#8⟩] }) = some .ready ∧
    fsmBusy .cfgWrite = true ∧ fsmBusy .cfgCheck = true ∧ fsmBusy .cfgFlush = true := by decide

theorem witness_SequencerIsNotInterrupted :
    fsmAfter (step { sequencing .cfgWrite (some ⟨0xD0#8, 0x14#8, 0x00#8, 0x04#8⟩) 0#16 with
      agenda := [.transport ⟨0#8, 0#8, 0#8, 0#8⟩] }) = some .cfgSettle1 ∧
    fsmAfter (step (sequencing .cfgCheck none 0x0004#16)) = some .cfgFlush ∧
    fsmAfter (step { sequencing .cfgFlush (some ⟨0#8, 0#8, 0#8, 0#8⟩) 0x0004#16 with
      agenda := [.transport ⟨0#8, 0#8, 0#8, 0#8⟩] }) = some .ready ∧
    fsmBusy .cfgWrite = true ∧ fsmBusy .cfgCheck = true ∧ fsmBusy .cfgFlush = true := by decide

theorem witness_ExchangeHoldsUntilTheTransportReturns :
    (nextState? (step { ready with tx := some ⟨0#8, 0#8, 0#8, 0#8⟩, hostOp := some .raw, agenda := [.xport 2#2] })).map (·.tx) =
      some (some ⟨0#8, 0#8, 0#8, 0#8⟩) ∧
    (nextState? (step { ready with
      tx := some ⟨0#8, 0#8, 0#8, 0#8⟩, hostOp := some .raw, agenda := [.transport ⟨0#8, 0#8, 0#8, 0#8⟩] })).map (·.tx) =
      some none ∧
    (nextState? (step { ready with tx := some ⟨0#8, 0#8, 0#8, 0#8⟩, hostOp := some .raw, agenda := [.reset] })).map (·.tx) =
      some none := by decide

theorem witness_FramesSentAreThoseTheRulesName :
    sent (step (sequencing .cfgNop none 0#16)) = some ⟨0x00#8, 0x00#8, 0x00#8, 0x00#8⟩ ∧
    sent (step (sequencing .cfgWrite none 0#16)) = some ⟨0xD0#8, 0x14#8, 0x00#8, 0x04#8⟩ ∧
    sent (step { State.reset with requests := [encodePort (.sendRaw 0xC8#8 0x14#8 0x0000#16)] }) =
      some ⟨0xC8#8, 0x14#8, 0x00#8, 0x00#8⟩ := by decide

theorem witness_OnlyConfigureWritesTheConfiguration :
    (nextState? (step { State.reset with requests := [encodePort (.configure 8#4 .internal false 0#64)] })).map
      (fun s => (s.cfgRange, s.cfgVref)) = some (8#4, Config.vrefInternal) ∧
    (nextState? (step ready)).map (·.cfgRange) = some ready.cfgRange ∧
    (nextState? (step { ready with agenda := [.reset] })).map (·.cfgPresent) = some false := by decide

theorem witness_OnlyTheReadBackWritesGot :
    (nextState? (step { sequencing .cfgNop (some ⟨0#8, 0#8, 0#8, 0#8⟩) 0#16 with
      agenda := [.transport ⟨0x00#8, 0x04#8, 0#8, 0#8⟩] })).map (·.got) = some 0x0004#16 ∧
    (nextState? (step { sequencing .cfgCheck none 0x0004#16 with agenda := [.reset] })).map (·.got) = some 0x0000#16 := by decide

theorem witness_CfgValidChangesOnlyByConfigureAndTimeout :
    (nextState? (step { State.reset with requests := [encodePort (.configure 8#4 .internal false 0#64)] })).map (·.cfgValid) =
      some true ∧ State.reset.cfgValid = false ∧
    (nextState? (.next (cfgCheckAction 1 (sequencing .cfgCheck none 0x8004#16)))).map (·.cfgValid) = some false ∧
    (nextState? (step { ready with agenda := [.reset] })).map (·.cfgValid) = some false := by decide

theorem witness_ResponseHoldsUntilTheNextCompletion :
    (nextState? (step { ready with rspValid := true, rspPresent := true })).map (·.rspValid) = some false ∧
    (nextState? (step { State.reset with requests := [encodePort .reserved100] })).map (·.rspValid) = some true ∧
    State.turn { ready with rspValid := true, rspPresent := true } ≠ .reset := by decide

theorem witness_StatusCodesAtTheResponsePort :
    responsePort { State.reset with rspPresent := true, rspStatus := .notReady } = some ⟨6#3, 0#2, 0#16, 0#64⟩ := by decide

theorem witness_ResetAbandonsEverything :
    State.turn { sequencing .cfgNop (some ⟨0#8, 0#8, 0#8, 0#8⟩) 0#16 with agenda := [.reset] } = .reset := by decide

theorem witness_EngineCheckIsCauseTwoAndUnreachable :
    State.fsm { ready with tx := some ⟨0#8, 0#8, 0#8, 0#8⟩, hostOp := some .scaled, cfgRange := 9#4 } = .ready ∧
    State.cfgValid { ready with tx := some ⟨0#8, 0#8, 0#8, 0#8⟩, hostOp := some .scaled, cfgRange := 9#4 } = true ∧
    State.cfgPresent { ready with tx := some ⟨0#8, 0#8, 0#8, 0#8⟩, hostOp := some .scaled, cfgRange := 9#4 } = true ∧
    8 < (9#4).toNat ∧
    State.cfgValid { State.reset with tx := some ⟨0#8, 0#8, 0#8, 0#8⟩, hostOp := some .scaled } = false ∧
    State.fsm { State.reset with tx := some ⟨0#8, 0#8, 0#8, 0#8⟩, hostOp := some .scaled } = .uninit := by decide

theorem witness_RoundingIsToNearestEven :
    0 < 2 ∧ roundLow 3 2 < f64InfLow ∧ roundLow 3 2 = 2 ∧ roundLow 1 2 = 0 ∧ 1 < f64InfLow := by decide +kernel

theorem witness_IntegersConvertExactly :
    0 ≤ 2 ^ 53 ∧ 65535 ≤ 2 ^ 53 ∧ 2 ^ 53 ≤ 2 ^ 53 := by decide

theorem witness_UnipolarZeroIsPositiveZero :
    bipolar .uni1p25 = false ∧ vrefValid 0x07B0000000000000#64 = true ∧ vrefValid 0x7830000000000000#64 = true ∧ vrefValid Config.vrefInternal = true := by decide +kernel

theorem witness_BipolarNeverScalesToZero :
    bipolar .bip0p625 = true ∧ vrefValid 0x07B0000000000000#64 = true ∧ vrefValid 0x7830000000000000#64 = true ∧ vrefValid Config.vrefInternal = true := by decide +kernel

theorem witness_BipolarScaleIsAntisymmetric :
    bipolar .bip3 = true ∧ vrefValid 0x07B0000000000000#64 = true ∧ vrefValid 0x7830000000000000#64 = true ∧ vrefValid Config.vrefInternal = true := by decide +kernel

theorem witness_ScaleIsMonotone :
    vrefValid 0x07B0000000000000#64 = true ∧ vrefValid 0x7830000000000000#64 = true ∧ vrefValid Config.vrefInternal = true ∧ (0x0000#16).toNat ≤ (0xFFFF#16).toNat ∧ (0x7FFF#16).toNat ≤ (0x7FFF#16).toNat := by decide +kernel

theorem witness_ScaleStaysFiniteAndNormal :
    vrefValid 0x07B0000000000000#64 = true ∧ vrefValid 0x7830000000000000#64 = true ∧ vrefValid Config.vrefInternal = true := by decide +kernel

theorem witness_DoublingOrderDoesNotMatter :
    vrefValid 0x07B0000000000000#64 = true ∧ vrefValid 0x7830000000000000#64 = true ∧ vrefValid Config.vrefInternal = true := by decide +kernel

theorem witness_LoopbackReturnsThePreviousPair :
    State.occupied { State.reset with
      requests := [encodePort (.sendRaw 0xD0#8 0x14#8 0x0004#16), encodePort (.sendRaw 0xC8#8 0x14#8 0x0000#16)] } = false ∧
    State.xportStatus { State.reset with
      requests := [encodePort (.sendRaw 0xD0#8 0x14#8 0x0004#16), encodePort (.sendRaw 0xC8#8 0x14#8 0x0000#16)] } = 0#2 := by decide

theorem witness_RepeatedReadRawDoesNotDrift :
    State.fsm { ready with requests := List.replicate 1 (encodePort .readRaw) } = .ready ∧
    State.occupied { ready with requests := List.replicate 3 (encodePort .readRaw) } = false ∧
    State.xportStatus { ready with requests := List.replicate 3 (encodePort .readRaw) } = 0#2 := by decide

theorem witness_ConvergingConfigureEndsReady :
    1 ≤ 1 ∧ 1 ≤ Config.maxAttempts ∧ Config.maxAttempts ≤ Config.maxAttempts ∧ 0x0001#16 ≠ 0#16 ∧
    State.occupied { State.reset with requests := [encodePort (.configure (rangeIndex .uni3) .internal false 0#64)] } = false ∧
    State.xportStatus { State.reset with requests := [encodePort (.configure (rangeIndex .uni3) .internal false 0#64)] } = 0#2 ∧
    (RefMode.internal = .external → false = true ∧ vrefValid 0#64 = true) := by
  refine ⟨by decide, Nat.succ_pos _, Nat.le_refl _, by decide, by decide, by decide, by intro h; cases h⟩

theorem witness_NonConvergingConfigureTimesOut :
    0x0001#16 ≠ 0#16 ∧
    State.occupied { State.reset with requests := [encodePort (.configure (rangeIndex .bip3) .external true Config.vrefInternal)] } =
      false ∧
    State.xportStatus { State.reset with requests := [encodePort (.configure (rangeIndex .bip3) .external true Config.vrefInternal)] } =
      0#2 ∧
    (RefMode.external = .external → true = true ∧ vrefValid Config.vrefInternal = true) := by decide +kernel

/-- The invariant holds in READY after a CONFIGURE, with the exchange of a READ_SCALED in progress. -/
theorem witness_invariant_ready_scaling :
    Inv { ready with tx := some ⟨0x00#8, 0x00#8, 0x00#8, 0x00#8⟩, hostOp := some .scaled } := by
  constructor <;> simp [ready, configLegal, State.reset, fsmBusy, gotCaptured, frameNamed, Config.maxAttempts]
  · exact ⟨.bip0p625, rfl, rfl⟩
  · decide

/-- For NoStepStopsUnderTheInvariant: two states apart in the bits of registers that hold no value, and in no others. -/
theorem witness_NoStepStopsUnderTheInvariant :
    Inv State.reset ∧ State.reset.masked = { State.reset with cmd := 0xFFFF#16, got := 1#16, rspCause := 3#2 }.masked ∧
    (nextState? (step State.reset)).isSome = true ∧
    (nextState? (step { State.reset with cmd := 0xFFFF#16, got := 1#16, rspCause := 3#2 })).isSome = true := by
  refine ⟨?_, by decide, by decide, by decide⟩
  constructor <;> simp [State.reset, fsmBusy, gotCaptured]

/-- The invariant holds in an iteration of the sequencer: the state of `busyState` in any of its seven states. -/
def busyState (f : FsmState) (tx : Option Frame) : State :=
  { ready with fsm := f, tx := tx, got := commandWord .bip0p625 .internal, gotPresent := true }

theorem busyState_inv (f : FsmState) (tx : Option Frame) (hf : fsmBusy f = true) (hw : f = .cfgWrite → tx ≠ none)
    (ht : ∀ g, tx = some g → frameNamed (busyState f tx) g) : Inv (busyState f tx) := by
  constructor <;> simp_all [busyState, ready, configLegal, State.reset, Config.maxAttempts]
  exact ⟨.bip0p625, rfl, rfl⟩

/-- For SequencerMakesProgress: an effective and a non-effective turn of a busy state under the invariant. -/
theorem witness_SequencerMakesProgress :
    Inv (busyState .cfgNop none) ∧ fsmBusy (busyState .cfgNop none).fsm = true ∧
    effectiveTurn (busyState .cfgNop none) = true ∧ (nextState? (step (busyState .cfgNop none))).isSome = true ∧
    Inv (busyState .cfgSettle1 none) ∧ effectiveTurn (busyState .cfgSettle1 none) = false ∧
    (nextState? (step (busyState .cfgSettle1 none))).isSome = true ∧ (busyState .cfgSettle1 none).turn ≠ .reset := by
  refine ⟨busyState_inv _ _ rfl (by simp) (by simp), rfl, rfl, rfl, busyState_inv _ _ rfl (by simp) (by simp), rfl, rfl, by decide⟩

theorem inv_inputs {s : State} (h : Inv s) (reqs : List PortWord) (a : List Turn) :
    Inv { s with requests := reqs, agenda := a } :=
  ⟨h.valid_legal, h.ready_valid, h.busy_valid, h.attempt_bound, h.attempt_left, h.attempt_counted, h.frame_named,
    h.op_exchange, h.got_present, h.flush_converged, h.cause_zero, h.error_zero, h.valid_present⟩

theorem inv_agenda {s : State} (h : Inv s) (a : List Turn) : Inv { s with agenda := a } := inv_inputs h s.requests a

/-- A PIPE premise of two exchanges, the second a NOP's. -/
theorem pipe_two {f rx rx' : Frame} {v : BitVec 16} (hr : codecDecode rx' = v) :
    PipePremise (fun _ _ => v) (fun _ => v) (fun _ => v) [(f, rx), (codecEncode 0x00#8 0x00#8 0x0000#16, rx')] := by
  refine ⟨fun n tx r h => ?_, fun _ _ _ _ _ => rfl, fun _ _ _ _ _ => rfl⟩
  match n, h with
  | 0, h => simp at h; obtain ⟨-, rfl⟩ := h; exact hr
  | n + 1, h => simp at h

/-- For the first clause of PipeMakesGotTheRegisterContent: a device whose register 0x14 reads 0x1234. -/
theorem witness_PipeMakesGotTheRegisterContent :
    Inv { busyState .cfgReadReq (some (codecEncode 0xC8#8 0x14#8 0x0000#16)) with
      agenda := [.transport (valueFrame 0x0000#16), .block, .transport (valueFrame 0x1234#16)] } ∧
    PipePremise (fun _ _ => 0x1234#16) (fun _ => 0x1234#16) (fun _ => 0x1234#16)
      [(codecEncode 0xC8#8 0x14#8 0x0000#16, valueFrame 0x0000#16),
       (codecEncode 0x00#8 0x00#8 0x0000#16, valueFrame 0x1234#16)] := by
  refine ⟨inv_agenda (busyState_inv _ _ rfl (by simp) ?_) _, pipe_two (codecDecode_valueFrame _)⟩
  intro g hg
  cases hg
  exact ⟨rfl, rfl⟩

/-- For the second clause: a READ_RAW at the port while the flush NOP is out, and a device that samples 0x8000. -/
theorem witness_PipeFirstSample :
    Inv { busyState .cfgFlush (some (codecEncode 0x00#8 0x00#8 0x0000#16)) with
      requests := [encodePort .readRaw],
      agenda := [.transport (valueFrame 0x0000#16), .block, .transport (valueFrame 0x8000#16)] } ∧
    PipePremise (fun _ _ => 0x8000#16) (fun _ => 0x8000#16) (fun _ => 0x8000#16)
      [(codecEncode 0x00#8 0x00#8 0x0000#16, valueFrame 0x0000#16),
       (codecEncode 0x00#8 0x00#8 0x0000#16, valueFrame 0x8000#16)] ∧
    (busyState .cfgFlush (some (codecEncode 0x00#8 0x00#8 0x0000#16))).xportStatus = 0#2 := by
  refine ⟨inv_inputs (busyState_inv _ _ rfl (by simp) ?_) _ _, pipe_two (codecDecode_valueFrame _), rfl⟩
  intro g hg
  cases hg
  exact ⟨rfl, rfl⟩

/-- CONVERGE(2) begins anew with a second CONFIGURE: in its first iteration it reads another value back (60 R249). -/
theorem test_converge_begins_anew :
    ((TestTransport.converge 2 1#16 0#16 0#16 4#16 4#16).after 2 (codecEncode 0xC8#8 0x14#8 0x0000#16)).respond =
      valueFrame 4#16 ∧
    ((TestTransport.converge 2 1#16 0#16 0#16 4#16 4#16).after 1 (codecEncode 0xC8#8 0x14#8 0x0000#16)).respond =
      valueFrame 5#16 := by decide

/-- After the flush NOP, CONVERGE answers the sample, not the range-select register (70 R274). -/
theorem test_converge_sample_after_flush :
    ((TestTransport.converge 1 1#16 0x8000#16 0#16 4#16 4#16).after 1 (codecEncode 0x00#8 0x00#8 0x0000#16)).respond =
      valueFrame 0x8000#16 := by decide

/-- For EveryStepKeepsTheInvariant and the second clause of
EngineCheckIsCauseTwoAndUnreachable: under the invariant a scaled read completes, and a bad range is rejected. -/
theorem witness_EveryStepKeepsTheInvariant :
    Inv { busyState .cfgNop none with agenda := [.block] } ∧
    (nextState? (step { busyState .cfgNop none with agenda := [.block] })).isSome = true ∧
    Inv State.reset := by
  refine ⟨inv_agenda (busyState_inv _ _ rfl (by simp) (by simp)) _, rfl, ?_⟩
  constructor <;> simp [State.reset, fsmBusy, gotCaptured]

/-- A rejected CONFIGURE under the invariant answers INVALID_CONFIGURATION with a cause other than 2. -/
theorem witness_EngineCheckUnreachable :
    answer (step { State.reset with requests := [encodePort (.configure 9#4 .internal false 0#64)] }) =
      some (.invalidConfiguration, 0#2, 0#16, 0#64) := by decide

end Sys2Proof.Tests
end

section
/-! PROOFS. The rounding of binary64 (00_scope R13) and the interval VREF_VALID (R8, 92 D7). The lower 63 bits
`low` of a finite number are `s * 2 ^ 52 + c` for a shift `s` and a significand `c`, and stand for `c * 2 ^ s`
units; the facts about the order of the numbers, about rounding and about bit patterns follow from that. -/

namespace Sys2Proof.Machine

/-! ### The units of the lower 63 bits -/

/-- A significand `c` below `2 ^ 53` fits the shift `s`: only the smallest shift takes one below `2 ^ 52`. -/
def SignificandFits (s c : Nat) : Prop := c < 2 ^ 53 ∧ (s = 0 ∨ 2 ^ 52 ≤ c)

theorem exists_significandFits (low : Nat) : ∃ s c, low = s * 2 ^ 52 + c ∧ SignificandFits s c :=
  ⟨low / 2 ^ 52 - 1, low - (low / 2 ^ 52 - 1) * 2 ^ 52, by omega, by omega, by omega⟩

/-- The bound `c = 2 ^ 53` is met too: there the carry goes into the exponent field. -/
theorem lowUnits_shift_add {s c : Nat} (hc : c ≤ 2 ^ 53) (hs : s = 0 ∨ 2 ^ 52 ≤ c) :
    lowUnits (s * 2 ^ 52 + c) = c * 2 ^ s := by
  unfold lowUnits
  rcases Nat.lt_or_ge c (2 ^ 52) with hsub | hnormal
  · have hs0 : s = 0 := by omega
    rw [if_pos (by omega), hs0]
    omega
  rcases Nat.lt_or_ge c (2 ^ 53) with hlt | hge
  · have hexp : (s * 2 ^ 52 + c) / 2 ^ 52 = s + 1 := by omega
    have hfrac : 2 ^ 52 + (s * 2 ^ 52 + c) % 2 ^ 52 = c := by omega
    rw [hexp, hfrac, if_neg (by omega), Nat.add_sub_cancel]
  · have hexp : (s * 2 ^ 52 + c) / 2 ^ 52 = s + 1 + 1 := by omega
    have hfrac : 2 ^ 52 + (s * 2 ^ 52 + c) % 2 ^ 52 = 2 ^ 52 := by omega
    rw [hexp, hfrac, if_neg (by omega), Nat.add_sub_cancel, Nat.le_antisymm hc hge, Nat.pow_succ']
    ring

theorem SignificandFits.lowUnits_eq {s c : Nat} (h : SignificandFits s c) :
    lowUnits (s * 2 ^ 52 + c) = c * 2 ^ s :=
  lowUnits_shift_add h.1.le h.2

theorem SignificandFits.lowUnits_succ_eq {s c : Nat} (h : SignificandFits s c) :
    lowUnits (s * 2 ^ 52 + (c + 1)) = (c + 1) * 2 ^ s :=
  lowUnits_shift_add h.1 (h.2.imp_right Nat.le_succ_of_le)

/-- Finite numbers of one sign are ordered as their bit patterns. -/
theorem lowUnits_strictMono : StrictMono lowUnits := by
  refine strictMono_nat_of_lt_succ fun low => ?_
  obtain ⟨s, c, rfl, h⟩ := exists_significandFits low
  rw [Nat.add_assoc, h.lowUnits_eq, h.lowUnits_succ_eq]
  exact Nat.mul_lt_mul_of_pos_right (Nat.lt_succ_self c) (Nat.two_pow_pos s)

/-! ### Rounding to an integer -/

theorem divRoundEven_cases (num den : Nat) :
    (divRoundEven num den = num / den ∧ 2 * (num % den) ≤ den ∧
      (2 * (num % den) = den → num / den % 2 = 0)) ∨
    (divRoundEven num den = num / den + 1 ∧ den ≤ 2 * (num % den) ∧
      (2 * (num % den) = den → num / den % 2 = 1)) := by
  unfold divRoundEven
  split <;> omega

/-- No `m` that does not lie strictly between the two multiples of `den` around `num` is nearer `num` than the
rounded multiple; where one is as near, it is that multiple or the rounded quotient is even. -/
theorem divRoundEven_nearest {num den m : Nat} (hden : 0 < den)
    (hm : m ≤ den * (num / den) ∨ den * (num / den + 1) ≤ m) :
    ((num : Int) - (den * divRoundEven num den : Nat)).natAbs ≤ ((num : Int) - m).natAbs ∧
    (((num : Int) - (den * divRoundEven num den : Nat)).natAbs = ((num : Int) - m).natAbs →
      m = den * divRoundEven num den ∨ divRoundEven num den % 2 = 0) := by
  have hdiv := Nat.div_add_mod num den
  have hmod := Nat.mod_lt num hden
  rw [Nat.mul_succ] at hm
  rcases divRoundEven_cases num den with ⟨hround, hhalf, htie⟩ | ⟨hround, hhalf, htie⟩
  · rw [hround]
    omega
  · rw [hround, Nat.mul_succ]
    omega

theorem divRoundEven_mul_self {den c : Nat} (hden : 0 < den) : divRoundEven (den * c) den = c := by
  rcases divRoundEven_cases (den * c) den with ⟨hround, -, -⟩ | ⟨-, hhalf, -⟩
  · rw [hround, Nat.mul_div_cancel_left c hden]
  · rw [Nat.mul_mod_right] at hhalf
    omega

/-! ### Rounding to a binary64 number -/

/-- The shift puts the quotient among the significands. -/
theorem significandFits_ulpShift (num den : Nat) :
    SignificandFits (ulpShift num den) (num / (den * 2 ^ ulpShift num den)) := by
  rw [← Nat.div_div_eq_div_mul]
  unfold ulpShift
  generalize num / den = n
  have hlt : n < 2 ^ 53 * 2 ^ (n.log2 - 52) := by
    rw [← Nat.pow_add]
    exact Nat.lt_log2_self.trans_le (Nat.pow_le_pow_right Nat.two_pos (by omega))
  refine ⟨(Nat.div_lt_iff_lt_mul (Nat.two_pow_pos _)).2 hlt, ?_⟩
  rcases Nat.le_total n.log2 52 with hsmall | hlarge
  · exact .inl (Nat.sub_eq_zero_of_le hsmall)
  · have hn : n ≠ 0 := by rintro rfl; simp at hlarge
    refine .inr ((Nat.le_div_iff_mul_le (Nat.two_pow_pos _)).2 ?_)
    rw [← Nat.pow_add, Nat.add_sub_cancel' hlarge]
    exact Nat.log2_self_le hn

/-- A significand that fits shift `s` is read off with the shift `s`. -/
theorem ulpShift_units {s c den : Nat} (hden : 0 < den) (h : SignificandFits s c) :
    ulpShift (den * (c * 2 ^ s)) den = s := by
  obtain ⟨hlt, hshift⟩ := h
  unfold ulpShift
  rw [Nat.mul_div_cancel_left _ hden]
  rcases hshift with rfl | hge
  · have : (c * 2 ^ 0).log2 < 53 := by
      rcases Nat.eq_zero_or_pos c with rfl | hpos
      · simp
      · exact (Nat.log2_lt (by omega)).2 (by omega)
    omega
  · have hlog : (c * 2 ^ s).log2 = 52 + s := by
      refine (Nat.log2_eq_iff (by positivity)).2 ⟨?_, ?_⟩
      · rw [Nat.pow_add]
        exact Nat.mul_le_mul_right _ hge
      · rw [Nat.add_right_comm, Nat.pow_add]
        exact Nat.mul_lt_mul_of_pos_right hlt (Nat.two_pow_pos s)
    omega

theorem roundLow_eq_of_lt {num den : Nat} (h : roundLow num den < f64InfLow) :
    roundLow num den = ulpShift num den * 2 ^ 52 + divRoundEven num (den * 2 ^ ulpShift num den) := by
  unfold roundLow at h ⊢
  omega

/-- A finite rounding stands for the rounded quotient, carry into the exponent field included. -/
theorem lowUnits_roundLow {num den : Nat} (h : roundLow num den < f64InfLow) :
    lowUnits (roundLow num den) =
      divRoundEven num (den * 2 ^ ulpShift num den) * 2 ^ ulpShift num den := by
  have hfit := significandFits_ulpShift num den
  rw [roundLow_eq_of_lt h]
  rcases divRoundEven_cases num (den * 2 ^ ulpShift num den) with ⟨hround, -, -⟩ | ⟨hround, -, -⟩
  · rw [hround, hfit.lowUnits_eq]
  · rw [hround, hfit.lowUnits_succ_eq]

/-- Rounding keeps a number that is a finite binary64 number already. -/
theorem roundLow_lowUnits {den low : Nat} (hden : 0 < den) (hlow : low < f64InfLow) :
    roundLow (den * lowUnits low) den = low := by
  obtain ⟨s, c, rfl, h⟩ := exists_significandFits low
  have hround : divRoundEven (den * (c * 2 ^ s)) (den * 2 ^ s) = c := by
    rw [Nat.mul_comm c, ← Nat.mul_assoc]
    exact divRoundEven_mul_self (Nat.mul_pos hden (Nat.two_pow_pos s))
  unfold roundLow
  rw [h.lowUnits_eq, ulpShift_units hden h, hround]
  exact Nat.min_eq_right hlow.le

/-- The binary64 numbers leave free the interval between the two significands around the quotient. -/
theorem units_outside_quotient_interval (num den low : Nat) :
    den * lowUnits low ≤ den * 2 ^ ulpShift num den * (num / (den * 2 ^ ulpShift num den)) ∨
    den * 2 ^ ulpShift num den * (num / (den * 2 ^ ulpShift num den) + 1) ≤ den * lowUnits low := by
  have hfit := significandFits_ulpShift num den
  generalize num / (den * 2 ^ ulpShift num den) = q at hfit ⊢
  generalize ulpShift num den = s at hfit ⊢
  rw [Nat.mul_assoc, Nat.mul_assoc, Nat.mul_comm (2 ^ s) q, Nat.mul_comm (2 ^ s) (q + 1),
    ← hfit.lowUnits_eq, ← hfit.lowUnits_succ_eq]
  exact (Nat.lt_or_ge low (s * 2 ^ 52 + (q + 1))).imp
    (fun hbelow => Nat.mul_le_mul_left den (lowUnits_strictMono.monotone (Nat.le_of_lt_succ hbelow)))
    (fun habove => Nat.mul_le_mul_left den (lowUnits_strictMono.monotone habove))

/-- Settles O47: the rounded significand is the nearest multiple of the unit, and no binary64 number lies within
that unit's interval around the exact value. -/
theorem roundingIsToNearestEven : Obligations.RoundingIsToNearestEven := by
  intro num den low hden hfin _
  have hunit : 0 < den * 2 ^ ulpShift num den := Nat.mul_pos hden (Nat.two_pow_pos _)
  have hvalue : den * lowUnits (roundLow num den) =
      den * 2 ^ ulpShift num den * divRoundEven num (den * 2 ^ ulpShift num den) := by
    rw [lowUnits_roundLow hfin, Nat.mul_comm (divRoundEven _ _), Nat.mul_assoc]
  obtain ⟨hnear, htie⟩ := divRoundEven_nearest hunit (units_outside_quotient_interval num den low)
  rw [← hvalue] at hnear htie
  push_cast at hnear htie
  refine ⟨hnear, fun heq hne => ?_⟩
  rcases htie heq with hsame | heven
  · exact absurd (lowUnits_strictMono.injective (Nat.eq_of_mul_eq_mul_left hden hsame)) hne
  · rw [roundLow_eq_of_lt hfin]
    omega

/-! ### Bit patterns -/

theorem f64Sign_eq_decide (x : F64) : f64Sign x = decide (2 ^ 63 ≤ x.toNat) := by
  unfold f64Sign
  rw [← BitVec.msb_eq_getLsbD_last, BitVec.msb_eq_decide]

theorem f64Exp_eq (x : F64) : f64Exp x = x.toNat % 2 ^ 63 / 2 ^ 52 := by
  unfold f64Exp
  rw [BitVec.extractLsb'_toNat, Nat.shiftRight_eq_div_pow]
  omega

theorem f64Frac_eq (x : F64) : f64Frac x = x.toNat % 2 ^ 63 % 2 ^ 52 := by
  unfold f64Frac
  rw [BitVec.extractLsb'_toNat, Nat.shiftRight_zero]
  omega

/-- The lower 63 bits decide finiteness by comparison with those of ∞, and are the magnitude. -/
theorem f64Class_eq (x : F64) :
    f64Class x =
      if x.toNat % 2 ^ 63 < f64InfLow then .fin (f64Sign x) (lowUnits (x.toNat % 2 ^ 63))
      else if x.toNat % 2 ^ 63 = f64InfLow then .inf (f64Sign x) else .nan := by
  unfold f64Class lowUnits f64InfLow
  rw [f64Exp_eq, f64Frac_eq]
  have hlow : x.toNat % 2 ^ 63 < 2 ^ 63 := Nat.mod_lt _ (by decide)
  generalize x.toNat % 2 ^ 63 = low at hlow ⊢
  by_cases hfin : low < 2047 * 2 ^ 52
  · rw [if_neg (by omega : ¬ low / 2 ^ 52 = 2047), if_pos hfin]
    split
    · congr 1
      omega
    · rfl
  · rw [if_pos (by omega : low / 2 ^ 52 = 2047), if_neg hfin]
    exact if_congr (by omega) rfl rfl

theorem f64Pack_toNat {neg : Bool} {low : Nat} (h : low < 2 ^ 63) :
    (f64Pack neg low).toNat = (if neg then 2 ^ 63 else 0) + low := by
  unfold f64Pack
  rw [BitVec.toNat_ofNat]
  split <;> omega

@[simp] theorem f64Class_pack {neg : Bool} {low : Nat} (h : low < f64InfLow) :
    f64Class (f64Pack neg low) = .fin neg (lowUnits low) := by
  have hlt : low < 2 ^ 63 := h.trans (by decide)
  have hmod : (f64Pack neg low).toNat % 2 ^ 63 = low := by
    rw [f64Pack_toNat hlt]
    split <;> omega
  have hsign : f64Sign (f64Pack neg low) = neg := by
    rw [f64Sign_eq_decide, f64Pack_toNat hlt]
    cases neg
    · exact decide_eq_false (by simpa using hlt)
    · exact decide_eq_true (by simp)
  rw [f64Class_eq, hmod, hsign, if_pos h]

/-! ### Exact conversion -/

/-- A number that is finite already is kept by the rounding, with its sign. -/
theorem f64Class_round_lowUnits {neg : Bool} {den low : Nat} (hden : 0 < den) (hlow : low < f64InfLow) :
    f64Class (f64Round neg (den * lowUnits low) den) = .fin neg (lowUnits low) := by
  unfold f64Round
  rw [roundLow_lowUnits hden hlow, f64Class_pack hlow]

/-- A positive number up to `2 ^ 53` has a multiple by a power of two among the normal significands. -/
theorem exists_normalising_shift {n : Nat} (hpos : 0 < n) (hle : n ≤ 2 ^ 53) :
    ∃ a ≤ 52, 2 ^ 52 ≤ n * 2 ^ a ∧ n * 2 ^ a ≤ 2 ^ 53 := by
  rcases hle.eq_or_lt with rfl | hlt
  · exact ⟨0, by decide, by decide, by decide⟩
  · have hlog : n.log2 ≤ 52 := Nat.le_of_lt_succ ((Nat.log2_lt hpos.ne').2 hlt)
    have hlower : 2 ^ n.log2 * 2 ^ (52 - n.log2) = 2 ^ 52 := pow_mul_pow_sub 2 hlog
    have hupper : 2 ^ (n.log2 + 1) * 2 ^ (52 - n.log2) = 2 ^ 53 := by
      rw [Nat.pow_succ', Nat.mul_assoc, hlower, ← Nat.pow_succ']
    refine ⟨52 - n.log2, Nat.sub_le _ _, ?_, ?_⟩
    · exact hlower ▸ Nat.mul_le_mul_right _ (Nat.log2_self_le hpos.ne')
    · exact hupper ▸ Nat.mul_le_mul_right _ Nat.lt_log2_self.le

theorem exists_lowUnits_eq_nat {n : Nat} (hle : n ≤ 2 ^ 53) :
    ∃ low < f64InfLow, lowUnits low = n * 2 ^ 1074 := by
  rcases Nat.eq_zero_or_pos n with rfl | hpos
  · exact ⟨0, by decide, (Nat.zero_mul _).symm⟩
  · obtain ⟨a, ha, hlower, hupper⟩ := exists_normalising_shift hpos hle
    refine ⟨(1074 - a) * 2 ^ 52 + n * 2 ^ a, ?_, ?_⟩
    · unfold f64InfLow
      omega
    · calc lowUnits ((1074 - a) * 2 ^ 52 + n * 2 ^ a)
          _ = n * 2 ^ a * 2 ^ (1074 - a) := lowUnits_shift_add hupper (.inr hlower)
          _ = n * (2 ^ a * 2 ^ (1074 - a)) := Nat.mul_assoc ..
          _ = n * 2 ^ 1074 := congrArg (n * ·) (pow_mul_pow_sub 2 (by omega))

/-- Settles O48: every natural number up to `2 ^ 53` is a binary64 number already, so rounding keeps it. -/
theorem integersConvertExactly : Obligations.IntegersConvertExactly := by
  intro n hle
  obtain ⟨low, hfin, hunits⟩ := exists_lowUnits_eq_nat hle
  unfold natToF64
  rw [← hunits, ← Nat.one_mul (lowUnits low), f64Class_round_lowUnits Nat.one_pos hfin, Nat.one_mul]

/-! ### VREF_VALID -/

theorem lowUnits_pow {s k : Nat} (hk : k = 52 + s) : lowUnits ((s + 1) * 2 ^ 52) = 2 ^ k := by
  rw [hk, Nat.succ_mul, lowUnits_shift_add (by decide) (.inr le_rfl), Nat.pow_add]

theorem vrefValid_iff_class (v : F64) :
    vrefValid v = true ↔ ∃ m, f64Class v = .fin false m ∧ 2 ^ 174 ≤ m ∧ m ≤ 2 ^ 1974 := by
  unfold vrefValid
  split
  next m hclass =>
    rw [Bool.and_eq_true, decide_eq_true_iff, decide_eq_true_iff]
    exact ⟨fun h => ⟨m, hclass, h⟩, fun ⟨_, hfin, h⟩ => by cases hclass.symm.trans hfin; exact h⟩
  next hother =>
    exact ⟨fun h => Bool.noConfusion h, fun ⟨m, hfin, _⟩ => absurd hfin (hother m)⟩

/-- A non-negative finite number is a pattern below that of +∞, and the pattern is its lower 63 bits. -/
theorem f64Class_eq_fin_false_iff {v : F64} {m : Nat} :
    f64Class v = .fin false m ↔ v.toNat < f64InfLow ∧ lowUnits v.toNat = m := by
  have hinf : f64InfLow < 2 ^ 63 := by decide
  rw [f64Class_eq, f64Sign_eq_decide]
  by_cases hneg : 2 ^ 63 ≤ v.toNat
  · have hnot : ¬ v.toNat < f64InfLow := by omega
    rw [decide_eq_true hneg]
    split_ifs <;> simp [hnot]
  · have hlow : v.toNat % 2 ^ 63 = v.toNat := Nat.mod_eq_of_lt (by omega)
    rw [hlow]
    split_ifs <;> simp_all

/-- The numbers `VREF_VALID` admits are the non-negative patterns whose magnitudes lie between its bounds. -/
theorem vrefValid_iff (v : F64) :
    vrefValid v = true ↔
      v.toNat < f64InfLow ∧ 2 ^ 174 ≤ lowUnits v.toNat ∧ lowUnits v.toNat ≤ 2 ^ 1974 := by
  simp only [vrefValid_iff_class, f64Class_eq_fin_false_iff]
  exact ⟨fun ⟨_, ⟨hfin, hm⟩, h⟩ => ⟨hfin, hm ▸ h⟩, fun ⟨hfin, h⟩ => ⟨_, ⟨hfin, rfl⟩, h⟩⟩

/-- Settles O49: magnitudes are ordered as bit patterns, and the bounds are the magnitudes of the end patterns. -/
theorem vrefValidIsABitInterval : Obligations.VrefValidIsABitInterval := by
  intro v
  have hmin : lowUnits 0x07B0000000000000 = 2 ^ 174 := lowUnits_pow (s := 122) rfl
  have hmax : lowUnits 0x7830000000000000 = 2 ^ 1974 := lowUnits_pow (s := 1922) rfl
  rw [vrefValid_iff, ← hmin, ← hmax, lowUnits_strictMono.le_iff_le, lowUnits_strictMono.le_iff_le]
  unfold f64InfLow
  omega

end Sys2Proof.Machine
end

section
/-! PROOFS. The registers of 10_state over every step: one function for what a turn does to the state, one list of
the effects a turn can have, and from that list the invariant and the rules on who writes which register. -/

namespace Sys2Proof.Machine

/-! ### A step as a function of the turn -/

/-- What a free block does with a request it accepts: the meaning of the instruction without the hold of 30 R80. -/
def acceptRequest : Instr → State → State
  | .nop a d => sendChecked (commandOpcode .nop) a d .raw
  | .read a d => sendChecked (commandOpcode .read) a d .raw
  | .readHword a d => sendChecked (commandOpcode .readHword) a d .raw
  | .write a d => sendChecked (commandOpcode .write) a d .raw
  | .writeMsbyte a d => sendChecked (commandOpcode .writeMsbyte) a d .raw
  | .writeLsbyte a d => sendChecked (commandOpcode .writeLsbyte) a d .raw
  | .setHword a d => sendChecked (commandOpcode .setHword) a d .raw
  | .clearHword a d => sendChecked (commandOpcode .clearHword) a d .raw
  | .unnamedOpcode o a d => sendChecked o a d .raw
  | .configure range ref vv v => configureAccepted range ref vv v
  | .sendRaw o a d => sendChecked o a d .raw
  | .readRaw => sampleAccepted .raw
  | .readScaled => sampleAccepted .scaled
  | .reserved100 | .reserved101 | .reserved110 | .reserved111 => State.raise .invalidRequest 0#2

theorem exec_eq_acceptOrHold (i : Instr) (s : State) : exec i s = acceptOrHold i (acceptRequest i) s := by
  cases i <;> rfl

/-- The state after the block's turn. -/
def blockMove (s : State) : State :=
  match s.fetch with
  | some (w, s') => acceptRequest (decodePort w) s'
  | none => sequencerAction s

theorem blockTurn_eq (s : State) : blockTurn s = .next (blockMove s) := by
  unfold blockTurn blockMove
  cases hfetch : s.fetch with
  | none => rfl
  | some p =>
    obtain ⟨w, s'⟩ := p
    obtain ⟨hfree, ws, -, rfl⟩ := fetch_some.mp hfetch
    exact (exec_eq_acceptOrHold _ _).trans (acceptOrHold_free hfree)

/-- The state after a turn, from the state in which it begins. -/
def turnMove : Turn → State → State
  | .block, s => blockMove s
  | .caller w, s => s.present w
  | .transport rx, s => transportReturn rx s
  | .settle elapsed, s => settleSignal Config.tSettle elapsed s
  | .xport status, s => { s with xportStatus := status }
  | .reset, s => s.resetBlock

theorem step_eq (s : State) : step s = .next (turnMove s.turn s.beginStep) := by
  unfold step turnMove
  cases s.turn with
  | block => exact blockTurn_eq _
  | caller | transport | settle | xport | reset => rfl

/-! ### The effects of a turn -/

/-- Everything an accepted request can do (43 R200-R211): it is rejected with a status other than the timeout, puts
its frame out, or is a CONFIGURE that passed its checks. -/
inductive Acceptance (i : Instr) (s : State) : State → Prop where
  | rejected {st c} (herror : st ≠ .ok) (hnoTimeout : st ≠ .configurationTimeout)
      (hcause : st ≠ .invalidConfiguration → c = 0#2) : Acceptance i s (s.raise st c)
  | sent {f op} (hframe : requestFrame i = some f)
      (hscaled : op = .scaled → s.fsm = .ready ∧ f = codecEncode 0x00#8 0x00#8 0x0000#16) :
      Acceptance i s (s.startExchange f (some op))
  | loaded {range r ref vv v} (hrequest : i = .configure range ref vv v)
      (hverdict : configureVerdict range ref vv v = .ok r) : Acceptance i s (s.loadConfiguration range r ref v)

namespace Acceptance

theorem of_sendChecked {i : Instr} {o a : Byte} {d : BitVec 16} {op : HostOp} {s : State}
    (hframe : requestFrame i = some (codecEncode o a d))
    (hscaled : op = .scaled → s.fsm = .ready ∧ codecEncode o a d = codecEncode 0x00#8 0x00#8 0x0000#16) :
    Acceptance i s (sendChecked o a d op s) := by
  rcases sendChecked_cases o a d op s with ⟨st, hverdict, heq⟩ | ⟨-, heq⟩ <;> rw [heq]
  · rcases transportVerdict_some hverdict with ⟨rfl, -⟩ | ⟨rfl, -⟩
    · exact .rejected nofun nofun fun _ => rfl
    · exact .rejected nofun nofun fun _ => rfl
  · exact .sent hframe hscaled

theorem of_sampleAccepted {i : Instr} {op : HostOp} (s : State)
    (hframe : requestFrame i = some (codecEncode 0x00#8 0x00#8 0x0000#16)) :
    Acceptance i s (sampleAccepted op s) := by
  rcases sampleAccepted_cases op s with ⟨-, heq⟩ | ⟨hready, heq⟩ <;> rw [heq]
  · exact .rejected nofun nofun fun _ => rfl
  · exact of_sendChecked hframe fun _ => ⟨hready, rfl⟩

theorem of_configureAccepted (range : BitVec 4) (ref : RefMode) (vv : Bool) (v : F64) (s : State) :
    Acceptance (.configure range ref vv v) s (configureAccepted range ref vv v s) := by
  rcases configureAccepted_cases range ref vv v s with
    ⟨st, c, herror, hnoTimeout, hcause, heq⟩ | ⟨r, hverdict, -, heq⟩ <;> rw [heq]
  · exact .rejected herror hnoTimeout hcause
  · exact .loaded rfl hverdict

theorem of_acceptRequest (i : Instr) (s : State) : Acceptance i s (acceptRequest i s) := by
  cases i with
  | configure range ref vv v => exact of_configureAccepted range ref vv v s
  | readRaw | readScaled => exact of_sampleAccepted s rfl
  | reserved100 | reserved101 | reserved110 | reserved111 => exact .rejected nofun nofun fun _ => rfl
  | nop | read | readHword | write | writeMsbyte | writeLsbyte | setHword | clearHword | unnamedOpcode | sendRaw =>
    exact of_sendChecked rfl nofun

end Acceptance

/-- The effects a turn `a` can have on the state `s` in which it begins, with what each needs. -/
inductive TurnEffect (a : Turn) (s : State) : State → Prop where
  /-- Only the block's inputs change, or nothing does. -/
  | inputs (reqs : List PortWord) (x : BitVec 2) (hturn : a ≠ .reset) :
      TurnEffect a s { s with requests := reqs, xportStatus := x }
  | reset (hturn : a = .reset) : TurnEffect a s s.resetBlock
  /-- The request accepted is rejected (60 R234). -/
  | rejected {w ws st c} (hturn : a = .block) (hfree : s.occupied = false) (hport : s.requests = w :: ws)
      (herror : st ≠ .ok) (hnoTimeout : st ≠ .configurationTimeout) (hcause : st ≠ .invalidConfiguration → c = 0#2) :
      TurnEffect a s ({ s with requests := ws }.raise st c)
  /-- The request accepted puts its frame out (43 R205, R207, R209). -/
  | requestSent {w ws f op} (hturn : a = .block) (hfree : s.occupied = false) (hport : s.requests = w :: ws)
      (hframe : requestFrame (decodePort w) = some f)
      (hscaled : op = .scaled → s.fsm = .ready ∧ f = codecEncode 0x00#8 0x00#8 0x0000#16) :
      TurnEffect a s ({ s with requests := ws }.startExchange f (some op))
  /-- The request accepted is a CONFIGURE and loads the configuration (43 R202). -/
  | loaded {w ws range r ref vv v} (hturn : a = .block) (hfree : s.occupied = false) (hport : s.requests = w :: ws)
      (hrequest : decodePort w = .configure range ref vv v) (hverdict : configureVerdict range ref vv v = .ok r) :
      TurnEffect a s ({ s with requests := ws }.loadConfiguration range r ref v)
  /-- CFG_WRITE begins its exchange (41 R133). -/
  | writeSent (hturn : a = .block) (htx : s.tx = none) (hfsm : s.fsm = .cfgWrite) :
      TurnEffect a s ({ s with attempt := s.attempt + 1 }.startExchange (codecEncode 0xD0#8 0x14#8 s.cmd) none)
  /-- CFG_READREQ begins its exchange (41 R135). -/
  | readSent (hturn : a = .block) (htx : s.tx = none) (hfsm : s.fsm = .cfgReadReq) :
      TurnEffect a s (s.startExchange (codecEncode 0xC8#8 0x14#8 0x0000#16) none)
  /-- CFG_NOP or CFG_FLUSH begins its exchange (41 R136, R139). -/
  | nopSent (hturn : a = .block) (htx : s.tx = none) (hfsm : s.fsm = .cfgNop ∨ s.fsm = .cfgFlush) :
      TurnEffect a s (s.startExchange (codecEncode 0x00#8 0x00#8 0x0000#16) none)
  /-- CFG_CHECK converges (41 R138). -/
  | converged (hturn : a = .block) (htx : s.tx = none) (hfsm : s.fsm = .cfgCheck) (hmatch : s.got = s.cmd) :
      TurnEffect a s { s with fsm := .cfgFlush }
  /-- CFG_CHECK tries again (41 R138). -/
  | retried (hturn : a = .block) (htx : s.tx = none) (hfsm : s.fsm = .cfgCheck) (hmatch : s.got ≠ s.cmd)
      (hleft : s.attempt < Config.maxAttempts) : TurnEffect a s { s with fsm := .cfgWrite }
  /-- CFG_CHECK times out (41 R140). -/
  | timedOut (hturn : a = .block) (htx : s.tx = none) (hfsm : s.fsm = .cfgCheck) (hmatch : s.got ≠ s.cmd)
      (hleft : Config.maxAttempts ≤ s.attempt) : TurnEffect a s (s.raise .configurationTimeout 0#2)
  /-- The wait of CFG_SETTLE1 is over (41 R134). -/
  | settled1 {n} (hturn : a = .settle n) (helapsed : Config.tSettle ≤ n) (htx : s.tx = none)
      (hfsm : s.fsm = .cfgSettle1) : TurnEffect a s { s with fsm := .cfgReadReq }
  /-- The wait of CFG_SETTLE2 is over (41 R137). -/
  | settled2 {n} (hturn : a = .settle n) (helapsed : Config.tSettle ≤ n) (htx : s.tx = none)
      (hfsm : s.fsm = .cfgSettle2) : TurnEffect a s { s with fsm := .cfgCheck }
  /-- The exchange of CFG_WRITE returns (41 R133). -/
  | writeDone {rx f} (hturn : a = .transport rx) (htx : s.tx = some f) (hfsm : s.fsm = .cfgWrite) :
      TurnEffect a s { s with tx := none, fsm := .cfgSettle1 }
  /-- The exchange of CFG_READREQ returns (41 R135). -/
  | readDone {rx f} (hturn : a = .transport rx) (htx : s.tx = some f) (hfsm : s.fsm = .cfgReadReq) :
      TurnEffect a s { s with tx := none, fsm := .cfgNop }
  /-- The exchange of CFG_NOP returns the read-back (41 R136). -/
  | readBack {rx f} (hturn : a = .transport rx) (htx : s.tx = some f) (hfsm : s.fsm = .cfgNop) :
      TurnEffect a s { s with tx := none, got := codecDecode rx, gotPresent := true, fsm := .cfgSettle2 }
  /-- The exchange of CFG_FLUSH returns and the CONFIGURE ends (41 R139). -/
  | flushed {rx f} (hturn : a = .transport rx) (htx : s.tx = some f) (hfsm : s.fsm = .cfgFlush) :
      TurnEffect a s ({ s with fsm := .ready }.respond .ok 0#2 (attemptValue s.attempt) 0#64)
  /-- The exchange of SEND_RAW or READ_RAW returns (43 R205, R207). -/
  | rawDone {rx f} (hturn : a = .transport rx) (htx : s.tx = some f) (hidle : fsmBusy s.fsm = false)
      (hop : s.hostOp = some .raw) : TurnEffect a s (s.respond .ok 0#2 (codecDecode rx) 0#64)
  /-- The exchange of READ_SCALED returns (43 R209). -/
  | scaledDone {rx f r} (hturn : a = .transport rx) (htx : s.tx = some f) (hidle : fsmBusy s.fsm = false)
      (hop : s.hostOp = some .scaled) (hengine : engineRange? s = some r) :
      TurnEffect a s (s.respond .ok 0#2 (codecDecode rx) (scale (codecDecode rx) r s.cfgVref))
  /-- The exchange of READ_SCALED returns and the engine has no configuration to run on (42 R177). -/
  | engineRefused {rx f} (hturn : a = .transport rx) (htx : s.tx = some f) (hidle : fsmBusy s.fsm = false)
      (hop : s.hostOp = some .scaled) (hengine : engineRange? s = none) :
      TurnEffect a s (s.raise .invalidConfiguration 2#2)
  /-- An exchange nobody waits for returns (log 12). -/
  | exchangeDropped {rx f} (hturn : a = .transport rx) (htx : s.tx = some f)
      (hnobody : (fsmBusy s.fsm = false ∧ s.hostOp = none) ∨
        s.fsm = .cfgSettle1 ∨ s.fsm = .cfgSettle2 ∨ s.fsm = .cfgCheck) :
      TurnEffect a s { s with tx := none }

namespace TurnEffect

theorem unchanged {a : Turn} (s : State) (hturn : a ≠ .reset) : TurnEffect a s s :=
  .inputs s.requests s.xportStatus hturn

theorem of_acceptance {s t : State} {w : PortWord} {ws : List PortWord} (hfree : s.occupied = false)
    (hport : s.requests = w :: ws) (h : Acceptance (decodePort w) { s with requests := ws } t) :
    TurnEffect .block s t := by
  cases h with
  | rejected herror hnoTimeout hcause => exact .rejected rfl hfree hport herror hnoTimeout hcause
  | sent hframe hscaled => exact .requestSent rfl hfree hport hframe hscaled
  | loaded hrequest hverdict => exact .loaded rfl hfree hport hrequest hverdict

theorem of_sequencerAction (s : State) : TurnEffect .block s (sequencerAction s) := by
  rcases sequencerAction_cases s with
    heq | ⟨htx, hfsm, heq⟩ | ⟨htx, hfsm, heq⟩ | ⟨htx, hfsm, heq⟩ | ⟨htx, hfsm, heq⟩ <;> rw [heq]
  · exact unchanged s (by decide)
  · exact .writeSent rfl htx hfsm
  · exact .readSent rfl htx hfsm
  · exact .nopSent rfl htx hfsm
  · rcases cfgCheckAction_cases Config.maxAttempts s with
      ⟨hmatch, heq⟩ | ⟨hmatch, hleft, heq⟩ | ⟨hmatch, hleft, heq⟩ <;> rw [heq]
    · exact .converged rfl htx hfsm hmatch
    · exact .retried rfl htx hfsm hmatch hleft
    · exact .timedOut rfl htx hfsm hmatch hleft

theorem of_blockMove (s : State) : TurnEffect .block s (blockMove s) := by
  unfold blockMove
  split
  next hfetch =>
    obtain ⟨hfree, ws, hport, rfl⟩ := fetch_some.mp hfetch
    exact of_acceptance hfree hport (.of_acceptRequest _ _)
  next => exact of_sequencerAction s

theorem of_completeHostOp {s : State} {f : Frame} (rx : Frame) (htx : s.tx = some f) (hidle : fsmBusy s.fsm = false) :
    TurnEffect (.transport rx) s (completeHostOp (codecDecode rx) s) := by
  rcases completeHostOp_cases (codecDecode rx) s with ⟨hop, heq⟩ | ⟨hop, heq⟩ | ⟨hop, heq⟩ <;> rw [heq]
  · exact .exchangeDropped rfl htx (.inl ⟨hidle, hop⟩)
  · exact .rawDone rfl htx hidle hop
  · rcases completeScaled_cases (codecDecode rx) s with ⟨hengine, heq⟩ | ⟨r, hengine, heq⟩ <;> rw [heq]
    · exact .engineRefused rfl htx hidle hop hengine
    · exact .scaledDone rfl htx hidle hop hengine

theorem of_transportReturn (rx : Frame) (s : State) : TurnEffect (.transport rx) s (transportReturn rx s) := by
  rcases transportReturn_cases rx s with ⟨-, heq⟩ | ⟨f, htx, heq⟩ <;> rw [heq]
  · exact unchanged s (by simp)
  rcases completeExchange_cases rx s with
    ⟨hfsm, heq⟩ | ⟨hfsm, heq⟩ | ⟨hfsm, heq⟩ | ⟨hfsm, heq⟩ | ⟨hfsm, heq⟩ | ⟨hfsm, heq⟩ <;> rw [heq]
  · exact of_completeHostOp rx htx (fsmBusy_false.mpr hfsm)
  · exact .writeDone rfl htx hfsm
  · exact .readDone rfl htx hfsm
  · exact .readBack rfl htx hfsm
  · exact .flushed rfl htx hfsm
  · exact .exchangeDropped rfl htx (.inr hfsm)

theorem of_settleSignal (n : Nat) (s : State) : TurnEffect (.settle n) s (settleSignal Config.tSettle n s) := by
  rcases settleSignal_cases Config.tSettle n s with
    heq | ⟨helapsed, htx, hfsm, heq⟩ | ⟨helapsed, htx, hfsm, heq⟩ <;> rw [heq]
  · exact unchanged s (by simp)
  · exact .settled1 rfl helapsed htx hfsm
  · exact .settled2 rfl helapsed htx hfsm

theorem of_turnMove (a : Turn) (s : State) : TurnEffect a s (turnMove a s) := by
  cases a with
  | block => exact of_blockMove s
  | caller w => exact .inputs (s.requests ++ [w]) s.xportStatus (by simp)
  | transport rx => exact of_transportReturn rx s
  | settle n => exact of_settleSignal n s
  | xport x => exact .inputs s.requests x (by simp)
  | reset => exact .reset rfl

end TurnEffect

/-- Everything a step can do. -/
theorem turnEffect_of_step {s t : State} (h : step s = .next t) : TurnEffect s.turn s.beginStep t := by
  rw [step_eq] at h
  cases h
  exact .of_turnMove s.turn s.beginStep

/-! ### The invariant -/

/-- Settles O44: at reset nothing is valid, busy, in progress or present, so every clause but the bound on `attempt`
has a false premise, and `attempt` is 0. -/
theorem resetMeetsTheInvariant : Obligations.ResetMeetsTheInvariant where
  valid_legal := nofun
  ready_valid := nofun
  busy_valid := nofun
  attempt_bound := Nat.zero_le _
  attempt_left := nofun
  attempt_counted := nofun
  frame_named := nofun
  op_exchange := nofun
  got_present := nofun
  flush_converged := nofun
  cause_zero := nofun
  error_zero := nofun
  valid_present := nofun

theorem fsmBusy_of_gotCaptured {f : FsmState} : gotCaptured f = true → fsmBusy f = true := by
  cases f <;> decide

/-- The frame of a request accepted in an idle state is one the rules name for the state (20 R52, R57). -/
theorem frameNamed_of_idle {s : State} {f : Frame} {op : HostOp} (hidle : fsmBusy s.fsm = false)
    (hscaled : op = .scaled → s.fsm = .ready ∧ f = codecEncode 0x00#8 0x00#8 0x0000#16) :
    frameNamed { s with hostOp := some op } f := by
  cases op with
  | raw => rcases fsmBusy_false.mp hidle with hfsm | hfsm <;> simp [frameNamed, hfsm]
  | scaled =>
    obtain ⟨hready, rfl⟩ := hscaled rfl
    simp [frameNamed, hready]

namespace Inv

theorem beginStep {s : State} (h : Inv s) : Inv s.beginStep := { h with valid_present := nofun }

theorem resetBlock (s : State) : Inv s.resetBlock := { resetMeetsTheInvariant with }

theorem inputs {s : State} (h : Inv s) (reqs : List PortWord) (x : BitVec 2) :
    Inv { s with requests := reqs, xportStatus := x } := { h with }

/-- The sequencer runs on the registers a CONFIGURE wrote (10 R36). -/
theorem cfgPresent_of_busy {s : State} (h : Inv s) (hbusy : fsmBusy s.fsm = true) : s.cfgPresent = true := by
  obtain ⟨hpresent, -⟩ := h.valid_legal (h.busy_valid hbusy)
  exact hpresent

/-- A completed request leaves the block idle in UNINIT or READY, and the invariant holds if READY keeps its
configuration and the response is one of 60 R231 and R232. -/
theorem respond {s : State} (h : Inv s) {f : FsmState} {valid : Bool} {st : Status} {c : BitVec 2} {v : BitVec 16}
    {x : F64} (hidle : fsmBusy f = false) (hready : f = .ready → valid = true)
    (hvalid : valid = true → s.cfgValid = true) (hcause : st ≠ .invalidConfiguration → c = 0#2)
    (hzero : st ≠ .ok → v = 0#16 ∧ x = 0#64) :
    Inv ({ s with fsm := f, cfgValid := valid }.respond st c v x) where
  valid_legal hv := h.valid_legal (hvalid hv)
  ready_valid := hready
  busy_valid hbusy := absurd (hidle.symm.trans hbusy) nofun
  attempt_bound := h.attempt_bound
  attempt_left := by rintro rfl; cases hidle
  attempt_counted hbusy := absurd (hidle.symm.trans hbusy) nofun
  frame_named := nofun
  op_exchange := nofun
  got_present hgot := absurd (hidle.symm.trans (fsmBusy_of_gotCaptured hgot)) nofun
  flush_converged := by rintro rfl; cases hidle
  cause_zero _ := hcause
  error_zero _ := hzero
  valid_present _ := rfl

/-- A response in an idle state. -/
theorem respond_idle {s : State} (h : Inv s) {st : Status} {c : BitVec 2} {v : BitVec 16} {x : F64}
    (hidle : fsmBusy s.fsm = false) (hcause : st ≠ .invalidConfiguration → c = 0#2)
    (hzero : st ≠ .ok → v = 0#16 ∧ x = 0#64) : Inv (s.respond st c v x) :=
  h.respond hidle h.ready_valid id hcause hzero

/-- An exception other than the timeout, taken in an idle state (60 R236). -/
theorem raise_idle {s : State} (h : Inv s) {st : Status} {c : BitVec 2} (hidle : fsmBusy s.fsm = false)
    (hnoTimeout : st ≠ .configurationTimeout) (hcause : st ≠ .invalidConfiguration → c = 0#2) : Inv (s.raise st c) := by
  rw [raise_eq_respond st c s hnoTimeout]
  exact h.respond_idle hidle hcause fun _ => ⟨rfl, rfl⟩

theorem raise_timeout {s : State} (h : Inv s) : Inv (s.raise .configurationTimeout 0#2) :=
  h.respond (f := .uninit) (valid := false) rfl nofun nofun (fun _ => rfl) fun _ => ⟨rfl, rfl⟩

/-- What an accepted CONFIGURE loads is a legal configuration (10 R38, 43 R201, R202). -/
theorem configLegal_loadConfiguration {s : State} {range : BitVec 4} {r : InputRange} {ref : RefMode} {vv : Bool}
    {v : F64} (hverdict : configureVerdict range ref vv v = .ok r) :
    configLegal (s.loadConfiguration range r ref v) := by
  obtain ⟨hrange, hvref⟩ := configureVerdict_ok hverdict
  refine ⟨rfl, ⟨r, hrange, rfl⟩, ?_, ?_⟩
  · rintro rfl
    rfl
  · rintro rfl
    obtain ⟨-, hvalid⟩ := hvref rfl
    exact hvalid

theorem loadConfiguration {s : State} (h : Inv s) {range : BitVec 4} {r : InputRange} {ref : RefMode} {vv : Bool}
    {v : F64} (hfree : s.occupied = false) (hverdict : configureVerdict range ref vv v = .ok r) :
    Inv (s.loadConfiguration range r ref v) := by
  obtain ⟨-, -, htx⟩ := occupied_false.mp hfree
  exact { h with
    valid_legal := fun _ => configLegal_loadConfiguration hverdict
    ready_valid := nofun
    busy_valid := fun _ => rfl
    attempt_bound := Nat.zero_le _
    attempt_left := fun _ _ => Nat.succ_pos _
    attempt_counted := fun _ => .inl ⟨rfl, htx⟩
    frame_named := fun f hf => absurd (htx.symm.trans hf) nofun
    got_present := nofun
    flush_converged := nofun }

/-- In a busy state no operation waits: the frame out, if any, is the sequencer's. -/
theorem hostOp_none_of_busy {s : State} (h : Inv s) (hbusy : fsmBusy s.fsm = true) : s.hostOp = none := by
  cases htx : s.tx with
  | none => simpa [htx] using h.op_exchange
  | some f =>
    have hnamed := h.frame_named f htx
    cases hfsm : s.fsm <;> simp_all [frameNamed, fsmBusy]

theorem attempt_pos {s : State} (h : Inv s) (hbusy : fsmBusy s.fsm = true)
    (hbegun : s.fsm = .cfgWrite → s.tx ≠ none) : 1 ≤ s.attempt :=
  (h.attempt_counted hbusy).resolve_left fun ⟨hfsm, htx⟩ => hbegun hfsm htx

/-- A frame goes out, in CFG_WRITE with a new count of the iterations. -/
theorem startExchange {s : State} (h : Inv s) {n : Nat} {f : Frame} {op : Option HostOp}
    (hbound : n ≤ Config.maxAttempts) (hcounted : fsmBusy s.fsm = true → 1 ≤ n)
    (hnamed : frameNamed { s with hostOp := op } f) : Inv ({ s with attempt := n }.startExchange f op) :=
  { h with
    attempt_bound := hbound
    attempt_left := nofun
    attempt_counted := fun hbusy => .inr (hcounted hbusy)
    frame_named := by rintro g ⟨⟩; exact hnamed
    op_exchange := fun _ => rfl }

/-- The sequencer's frame goes out in a state other than CFG_WRITE. -/
theorem startSequencerExchange {s : State} (h : Inv s) {f : Frame} (hbegun : s.fsm ≠ .cfgWrite)
    (hnamed : frameNamed { s with hostOp := none } f) : Inv (s.startExchange f none) :=
  h.startExchange h.attempt_bound (fun hbusy => h.attempt_pos hbusy (absurd · hbegun)) hnamed

/-- The sequencer moves on to `f` in an iteration that has begun, with no exchange in progress from then on. -/
theorem advance {s : State} (h : Inv s) {f : FsmState} {x : Option Frame} {g : BitVec 16} {p : Bool}
    (hbusy : fsmBusy s.fsm = true) (hbegun : s.fsm = .cfgWrite → s.tx ≠ none) (hx : x = none)
    (hleft : f = .cfgWrite → s.attempt < Config.maxAttempts) (hgot : gotCaptured f = true → p = true)
    (hflush : f = .cfgFlush → g = s.cmd) : Inv { s with fsm := f, tx := x, got := g, gotPresent := p } :=
  { h with
    ready_valid := fun _ => h.busy_valid hbusy
    busy_valid := fun _ => h.busy_valid hbusy
    attempt_left := fun hfsm _ => hleft hfsm
    attempt_counted := fun _ => .inr (h.attempt_pos hbusy hbegun)
    frame_named := fun f hf => absurd (hx.symm.trans hf) nofun
    op_exchange := fun hop => absurd hop (by simp [h.hostOp_none_of_busy hbusy])
    got_present := hgot
    flush_converged := hflush }

/-- An exchange nobody waits for never arises (log 12). -/
theorem exchange_awaited {s : State} (h : Inv s) {f : Frame} (htx : s.tx = some f) :
    ¬ ((fsmBusy s.fsm = false ∧ s.hostOp = none) ∨
      s.fsm = .cfgSettle1 ∨ s.fsm = .cfgSettle2 ∨ s.fsm = .cfgCheck) := by
  have hnamed := h.frame_named f htx
  rintro (⟨hidle, hop⟩ | hfsm | hfsm | hfsm)
  · rcases fsmBusy_false.mp hidle with hfsm | hfsm <;> simp [frameNamed, hfsm, hop] at hnamed
  · simp [frameNamed, hfsm] at hnamed
  · simp [frameNamed, hfsm] at hnamed
  · simp [frameNamed, hfsm] at hnamed

theorem turnEffect {a : Turn} {s t : State} (h : Inv s) (heffect : TurnEffect a s t) : Inv t := by
  cases heffect with
  | inputs reqs x => exact h.inputs reqs x
  | reset => exact .resetBlock s
  | @rejected w ws st c _ hfree _ _ hnoTimeout hcause =>
    obtain ⟨hidle, -, -⟩ := occupied_false.mp hfree
    exact (h.inputs ws s.xportStatus).raise_idle hidle hnoTimeout hcause
  | @requestSent w ws f op _ hfree _ _ hscaled =>
    obtain ⟨hidle, -, -⟩ := occupied_false.mp hfree
    exact (h.inputs ws s.xportStatus).startExchange h.attempt_bound
      (fun hbusy => absurd (hidle.symm.trans hbusy) nofun) (frameNamed_of_idle hidle hscaled)
  | @loaded w ws range r ref vv v _ hfree _ _ hverdict =>
    exact (h.inputs ws s.xportStatus).loadConfiguration hfree hverdict
  | writeSent _ htx hfsm =>
    exact h.startExchange (h.attempt_left hfsm htx) (fun _ => Nat.succ_pos _) (by simp [frameNamed, hfsm])
  | readSent _ _ hfsm =>
    exact h.startSequencerExchange (by simp [hfsm]) (by simp [frameNamed, hfsm])
  | nopSent _ _ hfsm =>
    rcases hfsm with hfsm | hfsm <;>
      exact h.startSequencerExchange (by simp [hfsm]) (by simp [frameNamed, hfsm])
  | converged _ htx hfsm hmatch =>
    exact h.advance (hfsm ▸ rfl) (by simp [hfsm]) htx nofun (fun _ => h.got_present (hfsm ▸ rfl)) fun _ => hmatch
  | retried _ htx hfsm _ hleft =>
    exact h.advance (hfsm ▸ rfl) (by simp [hfsm]) htx (fun _ => hleft) nofun nofun
  | timedOut => exact h.raise_timeout
  | settled1 _ _ htx hfsm =>
    exact h.advance (hfsm ▸ rfl) (by simp [hfsm]) htx nofun nofun nofun
  | settled2 _ _ htx hfsm =>
    exact h.advance (hfsm ▸ rfl) (by simp [hfsm]) htx nofun (fun _ => h.got_present (hfsm ▸ rfl)) nofun
  | writeDone _ htx hfsm =>
    exact h.advance (hfsm ▸ rfl) (by simp [htx]) rfl nofun nofun nofun
  | readDone _ _ hfsm =>
    exact h.advance (hfsm ▸ rfl) (by simp [hfsm]) rfl nofun nofun nofun
  | readBack _ _ hfsm =>
    exact h.advance (hfsm ▸ rfl) (by simp [hfsm]) rfl nofun (fun _ => rfl) nofun
  | flushed _ _ hfsm =>
    exact h.respond (f := .ready) rfl (fun _ => h.busy_valid (hfsm ▸ rfl)) id (fun _ => rfl) nofun
  | rawDone _ _ hidle => exact h.respond_idle hidle (fun _ => rfl) nofun
  | scaledDone _ _ hidle => exact h.respond_idle hidle (fun _ => rfl) nofun
  | engineRefused _ _ hidle => exact h.raise_idle hidle nofun nofun
  | exchangeDropped _ htx hnobody => exact absurd hnobody (h.exchange_awaited htx)

end Inv

/-- Settles O43: the invariant holds when the turn begins, and every effect of a turn keeps it. -/
theorem everyStepKeepsTheInvariant : Obligations.EveryStepKeepsTheInvariant :=
  fun _ _ h hstep => h.beginStep.turnEffect (turnEffect_of_step hstep)

/-! ### Who writes which register -/

/-- Settles O36: of the effects, only a reset and an accepted CONFIGURE touch the configuration registers. -/
theorem onlyConfigureWritesTheConfiguration : Obligations.OnlyConfigureWritesTheConfiguration := by
  intro s t hstep
  cases turnEffect_of_step hstep with
  | reset hturn => exact .inl hturn
  | @loaded w ws range r ref vv v hturn hfree hport hrequest hverdict =>
    obtain ⟨hrange, -⟩ := configureVerdict_ok hverdict
    obtain rfl := inputRange?_some.mp hrange
    refine .inr (.inr ⟨hturn, hfree, r, ref, vv, v, w, ws, hport, hrequest, rfl, rfl, ?_, rfl, rfl, rfl⟩)
    cases ref <;> rfl
  | _ => exact .inr (.inl (by simp))

/-- Settles O37: of the effects, only a reset and the read-back touch `got`. -/
theorem onlyTheReadBackWritesGot : Obligations.OnlyTheReadBackWritesGot := by
  intro s t hstep hchange
  cases turnEffect_of_step hstep with
  | reset hturn => exact .inl hturn
  | @readBack rx f hturn htx hfsm => exact .inr ⟨hfsm, Option.isSome_of_mem htx, rx, hturn, rfl⟩
  | _ => exact absurd (by simp) hchange

/-- Settles O38: of the effects, only a reset, an accepted CONFIGURE and the timeout touch `cfg_valid`. -/
theorem cfgValidChangesOnlyByConfigureAndTimeout : Obligations.CfgValidChangesOnlyByConfigureAndTimeout := by
  intro s t hstep hchange
  cases turnEffect_of_step hstep with
  | reset hturn => exact .inl hturn
  | @loaded w ws range r ref vv v _ hfree hport hrequest =>
    exact .inr (.inl ⟨rfl, rfl, hfree, w, ws, range, ref, vv, v, hport, hrequest⟩)
  | timedOut _ _ hfsm => exact .inr (.inr ⟨rfl, hfsm, rfl, rfl⟩)
  | rejected _ _ _ _ hnoTimeout => exact absurd (by simp [raise_cfgValid, hnoTimeout]) hchange
  | engineRefused => exact absurd rfl hchange
  | _ => exact absurd (by simp) hchange

theorem respond_occupied {s : State} {st : Status} {c : BitVec 2} {v : BitVec 16} {x : F64}
    (hidle : fsmBusy s.fsm = false) : (s.respond st c v x).occupied = false :=
  occupied_false.mpr ⟨hidle, rfl, rfl⟩

theorem raise_occupied {s : State} {st : Status} {c : BitVec 2} (hidle : fsmBusy s.fsm = false) :
    (s.raise st c).occupied = false := by
  refine occupied_false.mpr ⟨?_, rfl, rfl⟩
  rw [raise_fsm]
  split
  · rfl
  · exact hidle

/-- Settles O39: an effect leaves the response registers as they are, or completes a request and leaves the block
free. -/
theorem responseHoldsUntilTheNextCompletion : Obligations.ResponseHoldsUntilTheNextCompletion := by
  intro s t hstep hturn
  cases turnEffect_of_step hstep with
  | reset hreset => exact absurd hreset hturn
  | rejected _ hfree =>
    obtain ⟨hidle, -, -⟩ := occupied_false.mp hfree
    exact .inr ⟨raise_rspValid .., raise_rspPresent .., raise_occupied hidle⟩
  | timedOut => exact .inr ⟨rfl, rfl, rfl⟩
  | flushed => exact .inr ⟨rfl, rfl, rfl⟩
  | rawDone _ _ hidle => exact .inr ⟨rfl, rfl, respond_occupied hidle⟩
  | scaledDone _ _ hidle => exact .inr ⟨rfl, rfl, respond_occupied hidle⟩
  | engineRefused _ _ hidle => exact .inr ⟨rfl, rfl, raise_occupied hidle⟩
  | _ => exact .inl (by simp)

/-! ### Registers that hold no value -/

@[simp] theorem masked_fsm (s : State) : s.masked.fsm = s.fsm := rfl
@[simp] theorem masked_tx (s : State) : s.masked.tx = s.tx := rfl
@[simp] theorem masked_hostOp (s : State) : s.masked.hostOp = s.hostOp := rfl
@[simp] theorem masked_attempt (s : State) : s.masked.attempt = s.attempt := rfl
@[simp] theorem masked_cfgValid (s : State) : s.masked.cfgValid = s.cfgValid := rfl
@[simp] theorem masked_cfgPresent (s : State) : s.masked.cfgPresent = s.cfgPresent := rfl
@[simp] theorem masked_requests (s : State) : s.masked.requests = s.requests := rfl
@[simp] theorem masked_xportStatus (s : State) : s.masked.xportStatus = s.xportStatus := rfl
@[simp] theorem masked_occupied (s : State) : s.masked.occupied = s.occupied := rfl

theorem masked_cmd {s : State} (h : s.cfgPresent = true) : s.masked.cmd = s.cmd := if_pos h
theorem masked_got {s : State} (h : s.gotPresent = true) : s.masked.got = s.got := if_pos h
theorem masked_cfgRange {s : State} (h : s.cfgPresent = true) : s.masked.cfgRange = s.cfgRange := if_pos h
theorem masked_cfgVref {s : State} (h : s.cfgPresent = true) : s.masked.cfgVref = s.cfgVref := if_pos h

/-- The sequencer's reads, `cmd` in CFG_WRITE and `cmd` and `got` in CFG_CHECK, are of registers that hold a value. -/
structure SequencerReadsPresent (s : State) : Prop where
  write_cmd : s.fsm = .cfgWrite → s.cfgPresent = true
  check_cmd : s.fsm = .cfgCheck → s.cfgPresent = true
  check_got : s.fsm = .cfgCheck → s.gotPresent = true

theorem Inv.sequencerReadsPresent {s : State} (h : Inv s) : SequencerReadsPresent s where
  write_cmd hfsm := h.cfgPresent_of_busy (hfsm ▸ rfl)
  check_cmd hfsm := h.cfgPresent_of_busy (hfsm ▸ rfl)
  check_got hfsm := h.got_present (hfsm ▸ rfl)

/-- It is a fact of the fields that masking keeps. -/
theorem SequencerReadsPresent.of_masked_eq {s s' : State} (h : SequencerReadsPresent s)
    (hmask : s.masked = s'.masked) : SequencerReadsPresent s' := by
  have hmasked : SequencerReadsPresent s.masked := { h with }
  rw [hmask] at hmasked
  exact { hmasked with }

/-! An operation on a masked state is the masked operation: it reads no absent register. -/

@[simp] theorem masked_startExchange (f : Frame) (op : Option HostOp) (s : State) :
    (s.startExchange f op).masked = s.masked.startExchange f op := rfl

@[simp] theorem masked_respond (st : Status) (c : BitVec 2) (v : BitVec 16) (x : F64) (s : State) :
    (s.respond st c v x).masked = s.masked.respond st c v x := rfl

@[simp] theorem masked_raise (st : Status) (c : BitVec 2) (s : State) :
    (s.raise st c).masked = s.masked.raise st c := by
  cases st <;> rfl

@[simp] theorem masked_loadConfiguration (range : BitVec 4) (r : InputRange) (ref : RefMode) (v : F64) (s : State) :
    (s.loadConfiguration range r ref v).masked = s.masked.loadConfiguration range r ref v := rfl

@[simp] theorem masked_sendChecked (o a : Byte) (d : BitVec 16) (op : HostOp) (s : State) :
    (sendChecked o a d op s).masked = sendChecked o a d op s.masked := by
  unfold sendChecked
  rw [masked_xportStatus]
  split
  · exact masked_raise ..
  · exact masked_startExchange ..

@[simp] theorem masked_sampleAccepted (op : HostOp) (s : State) :
    (sampleAccepted op s).masked = sampleAccepted op s.masked := by
  unfold sampleAccepted
  rw [masked_fsm]
  split
  · exact masked_sendChecked ..
  · exact masked_raise ..

@[simp] theorem masked_configureAccepted (range : BitVec 4) (ref : RefMode) (vv : Bool) (v : F64) (s : State) :
    (configureAccepted range ref vv v s).masked = configureAccepted range ref vv v s.masked := by
  unfold configureAccepted
  rw [masked_xportStatus]
  split
  · exact masked_raise ..
  · split
    · exact masked_raise ..
    · exact masked_loadConfiguration ..

theorem masked_acceptRequest (i : Instr) (s : State) : (acceptRequest i s).masked = acceptRequest i s.masked := by
  cases i <;> simp [acceptRequest]

theorem masked_cfgCheckAction {bound : Nat} {s : State} (hcmd : s.cfgPresent = true) (hgot : s.gotPresent = true) :
    (cfgCheckAction bound s).masked = cfgCheckAction bound s.masked := by
  have hmatch : s.masked.got = s.masked.cmd ↔ s.got = s.cmd := by rw [masked_cmd hcmd, masked_got hgot]
  unfold cfgCheckAction
  rw [masked_attempt]
  by_cases heq : s.got = s.cmd
  · rw [if_pos heq, if_pos (hmatch.mpr heq)]
    rfl
  · rw [if_neg heq, if_neg (hmatch.not.mpr heq)]
    split
    · rfl
    · exact masked_raise ..

theorem masked_cfgWriteAction {s : State} (hcmd : s.cfgPresent = true) :
    (cfgWriteAction s).masked = cfgWriteAction s.masked :=
  congrArg
    (fun d => { s.masked with attempt := s.attempt + 1 }.startExchange
      (codecEncode (commandOpcode .write) Config.rangeSelAddr d) none)
    (masked_cmd hcmd).symm

theorem masked_sequencerAction {s : State} (h : SequencerReadsPresent s) :
    (sequencerAction s).masked = sequencerAction s.masked := by
  unfold sequencerAction
  rw [masked_tx, masked_fsm]
  cases s.tx with
  | some f => rfl
  | none =>
    cases hfsm : s.fsm with
    | cfgWrite => exact masked_cfgWriteAction (h.write_cmd hfsm)
    | cfgCheck => exact masked_cfgCheckAction (h.check_cmd hfsm) (h.check_got hfsm)
    | uninit | cfgSettle1 | cfgReadReq | cfgNop | cfgSettle2 | cfgFlush | ready => rfl

theorem masked_fetch (s : State) : s.masked.fetch = s.fetch.map fun p => (p.1, p.2.masked) := by
  unfold State.fetch
  rw [masked_occupied, masked_requests]
  split
  · rfl
  · split <;> rfl

theorem masked_blockMove {s : State} (h : SequencerReadsPresent s) : (blockMove s).masked = blockMove s.masked := by
  unfold blockMove
  rw [masked_fetch]
  cases s.fetch with
  | none => exact masked_sequencerAction h
  | some p => exact masked_acceptRequest _ _

theorem engineRange?_masked (s : State) : engineRange? s.masked = engineRange? s := by
  unfold engineRange?
  rw [masked_cfgValid, masked_cfgPresent]
  split
  next hconfigured =>
    obtain ⟨-, hpresent⟩ := Bool.and_eq_true_iff.mp hconfigured
    rw [masked_cfgRange hpresent]
  next => rfl

theorem masked_completeScaled (raw : BitVec 16) (s : State) :
    (completeScaled raw s).masked = completeScaled raw s.masked := by
  unfold completeScaled
  rw [engineRange?_masked]
  split
  next hengine =>
    obtain ⟨-, hpresent, -⟩ := engineRange?_some.mp hengine
    rw [masked_cfgVref hpresent]
    exact masked_respond ..
  next => exact masked_raise ..

theorem masked_completeHostOp (v : BitVec 16) (s : State) :
    (completeHostOp v s).masked = completeHostOp v s.masked := by
  unfold completeHostOp
  rw [masked_hostOp]
  split
  · rfl
  · exact masked_respond ..
  · exact masked_completeScaled v s

theorem masked_transportReturn (rx : Frame) (s : State) :
    (transportReturn rx s).masked = transportReturn rx s.masked := by
  unfold transportReturn completeExchange
  rw [masked_tx, masked_fsm]
  cases s.tx with
  | none => rfl
  | some f =>
    cases s.fsm with
    | uninit | ready => exact masked_completeHostOp (codecDecode rx) s
    | cfgWrite | cfgSettle1 | cfgReadReq | cfgNop | cfgSettle2 | cfgCheck | cfgFlush => rfl

theorem masked_settleSignal (bound elapsed : Nat) (s : State) :
    (settleSignal bound elapsed s).masked = settleSignal bound elapsed s.masked := by
  unfold settleSignal
  rw [masked_tx, masked_fsm]
  split
  · split <;> rfl
  · rfl

theorem masked_turnMove {s : State} (h : SequencerReadsPresent s) (a : Turn) :
    (turnMove a s).masked = turnMove a s.masked := by
  cases a with
  | block => exact masked_blockMove h
  | transport rx => exact masked_transportReturn rx s
  | settle n => exact masked_settleSignal Config.tSettle n s
  | caller | xport | reset => rfl

/-- A masked state steps to the masked next state. -/
theorem step_masked {s t : State} (h : SequencerReadsPresent s) (hstep : step s = .next t) :
    step s.masked = .next t.masked := by
  rw [step_eq] at hstep ⊢
  cases hstep
  have hbegun : SequencerReadsPresent s.beginStep := { h with }
  exact congrArg _ (masked_turnMove hbegun s.turn).symm

/-- Settles O45: two states that mask to the same state step to states that mask to the same state, the one this
masked state steps to. -/
theorem noStepStopsUnderTheInvariant : Obligations.NoStepStopsUnderTheInvariant := by
  refine ⟨fun s => ⟨_, step_eq s⟩, fun s s' t t' h hmask hstep hstep' => ?_⟩
  have hreads := h.sequencerReadsPresent
  have hnext : step s'.masked = .next t.masked := hmask ▸ step_masked hreads hstep
  have hnext' : step s'.masked = .next t'.masked := step_masked (hreads.of_masked_eq hmask) hstep'
  injection hnext.symm.trans hnext'

/-! ### The reset state -/

/-- Settles O42, by evaluation: the agenda and the port are empty, and the block's own turn does nothing in UNINIT. -/
theorem resetStateWaitsForARequest : Obligations.ResetStateWaitsForARequest :=
  ⟨rfl, rfl, rfl, rfl, rfl, rfl, rfl, rfl⟩

end Sys2Proof.Machine
end

section
/-! PROOFS. The exchanges of 20_memory over every step: one at a time, ended by the transport or a reset alone, and
none begun but with a frame the rules name. -/

namespace Sys2Proof.Machine

/-! ### What an exchange in progress holds -/

/-- No request is accepted while a frame is on the interface (30 R80), and the sequencer holds. -/
theorem blockMove_exchange {s : State} {f : Frame} (htx : s.tx = some f) : blockMove s = s := by
  have hoccupied : s.occupied = true := by simp [State.occupied, htx]
  have hport : s.fetch = none := fetch_none.mpr (.inl hoccupied)
  rw [blockMove, hport]
  exact sequencerAction_exchange htx

theorem settleSignal_exchange {s : State} {f : Frame} (bound elapsed : Nat) (htx : s.tx = some f) :
    settleSignal bound elapsed s = s := by
  rcases settleSignal_cases bound elapsed s with heq | ⟨-, hfree, -⟩ | ⟨-, hfree, -⟩
  · exact heq
  · exact absurd (htx.symm.trans hfree) nofun
  · exact absurd (htx.symm.trans hfree) nofun

/-! ### What a return leaves on the interface -/

theorem completeHostOp_tx (v : BitVec 16) (s : State) : (completeHostOp v s).tx = none := by
  rcases completeHostOp_cases v s with ⟨-, heq⟩ | ⟨-, heq⟩ | ⟨-, heq⟩ <;> rw [heq]
  · exact respond_tx ..
  · rcases completeScaled_cases v s with ⟨-, heq⟩ | ⟨r, -, heq⟩ <;> rw [heq]
    · exact raise_tx ..
    · exact respond_tx ..

theorem completeExchange_tx (rx : Frame) (s : State) : (completeExchange rx s).tx = none := by
  rcases completeExchange_cases rx s with
    ⟨-, heq⟩ | ⟨-, heq⟩ | ⟨-, heq⟩ | ⟨-, heq⟩ | ⟨-, heq⟩ | ⟨-, heq⟩ <;> rw [heq]
  · exact completeHostOp_tx _ s
  · exact respond_tx ..

theorem transportReturn_tx (rx : Frame) (s : State) : (transportReturn rx s).tx = none := by
  rcases transportReturn_cases rx s with ⟨hnone, heq⟩ | ⟨f, -, heq⟩ <;> rw [heq]
  · exact hnone
  · exact completeExchange_tx rx s

/-! ### The obligations -/

/-- Settles O34, by whose turn it is: a return and a reset clear the interface, the caller and `xport_status` change
inputs, and the block and the settle event find the exchange in progress and do nothing. -/
theorem exchangeHoldsUntilTheTransportReturns : Obligations.ExchangeHoldsUntilTheTransportReturns := by
  intro s t f htx hstep
  have hbegun : s.beginStep.tx = some f := htx
  rw [step_eq] at hstep
  cases hstep
  cases s.turn with
  | block => exact .inr ⟨s.requests, s.xportStatus, blockMove_exchange hbegun, nofun, nofun⟩
  | caller w => exact .inr ⟨s.requests ++ [w], s.xportStatus, rfl, nofun, nofun⟩
  | transport rx => exact .inl ⟨transportReturn_tx rx _, .inr ⟨rx, rfl⟩⟩
  | settle elapsed => exact .inr ⟨s.requests, s.xportStatus, settleSignal_exchange _ elapsed hbegun, nofun, nofun⟩
  | xport x => exact .inr ⟨s.requests, x, rfl, nofun, nofun⟩
  | reset => exact .inl ⟨rfl, .inl rfl⟩

/-- Settles O35: of the effects, four begin an exchange, each with the frame its case names; every other one leaves a
free interface free. -/
theorem framesSentAreThoseTheRulesName : Obligations.FramesSentAreThoseTheRulesName := by
  intro s t f hfreeTx hstep hsent
  cases turnEffect_of_step hstep with
  | @requestSent w ws _ _ hturn hfree hport hframe =>
    cases hsent
    exact ⟨hturn, .inr (.inr (.inr ⟨hfree, w, ws, hport, hframe⟩))⟩
  | writeSent hturn _ hfsm =>
    cases hsent
    exact ⟨hturn, .inl ⟨hfsm, rfl⟩⟩
  | readSent hturn _ hfsm =>
    cases hsent
    exact ⟨hturn, .inr (.inl ⟨hfsm, rfl⟩)⟩
  | nopSent hturn _ hfsm =>
    cases hsent
    exact ⟨hturn, .inr (.inr (.inl ⟨hfsm, rfl⟩))⟩
  | reset => exact absurd hsent nofun
  | _ => simp [hfreeTx] at hsent

end Sys2Proof.Machine
end

section
/-! PROOFS. The encodings of 30_encoding: frames, request bundles and their bytes read back what was written, and a
decoded request presented at the port runs, holds, or gets its verdict. -/

namespace Sys2Proof

open Machine

/-! ### Frames -/

/-- The codec's parts of a frame (30 R71) build that frame. -/
theorem codecEncode_frameData (f : Frame) : codecEncode f.f0 f.f1 (frameData f) = f := by
  have hhigh : (f.f2 ++ f.f3).extractLsb' 8 8 = f.f2 := BitVec.extractLsb'_append_eq_left
  have hlow : (f.f2 ++ f.f3).extractLsb' 0 8 = f.f3 := BitVec.extractLsb'_append_eq_right
  rw [codecEncode, frameData, hhigh, hlow]

theorem codecEncode_f2_toNat (o a : Byte) (d : BitVec 16) : (codecEncode o a d).f2.toNat = d.toNat / 256 := by
  simp only [codecEncode, BitVec.extractLsb'_toNat, Nat.shiftRight_eq_div_pow]
  omega

theorem codecEncode_f3_toNat (o a : Byte) (d : BitVec 16) : (codecEncode o a d).f3.toNat = d.toNat % 256 := by
  simp [codecEncode]

/-- Appending puts the first word above the second, as a number. -/
theorem append_toNat {m n : Nat} (x : BitVec m) (y : BitVec n) : (x ++ y).toNat = x.toNat * 2 ^ n + y.toNat := by
  rw [BitVec.toNat_append, ← Nat.shiftLeft_add_eq_or_of_lt y.isLt, Nat.shiftLeft_eq]

theorem frame32_toNat (f : Frame) :
    (frame32 f).toNat = f.f0.toNat * 2 ^ 24 + f.f1.toNat * 2 ^ 16 + f.f2.toNat * 2 ^ 8 + f.f3.toNat := by
  simp only [frame32, append_toNat]
  omega

/-- Settles O3, byte by byte; the data word is 256 times its high byte plus its low byte. -/
theorem codecEncodesOpcodeAddressData : Obligations.CodecEncodesOpcodeAddressData := by
  intro o a d
  refine ⟨rfl, rfl, codecEncode_f2_toNat o a d, codecEncode_f3_toNat o a d, ?_⟩
  rw [frame32_toNat, codecEncode_f0, codecEncode_f1, codecEncode_f2_toNat, codecEncode_f3_toNat]
  omega

theorem namedCommand?_some {b : Byte} {c : DeviceCommand} (h : namedCommand? b = some c) : b = commandOpcode c := by
  revert b
  cases c <;> decide

/-- A frame whose opcode names no command decodes to the unnamed-opcode row (30 R75). -/
theorem decodeCommand_unnamed {o : Byte} (h : namedCommand? o = none) (a : Byte) (d : BitVec 16) :
    decodeCommand (codecEncode o a d) = .unnamedOpcode o a d :=
  Laws.PortRoundTrip.unnamedOpcode o a d (by simp [Instr.wellFormed, h])

/-- What the row of a named opcode and the unnamed-opcode row share: a command frame decodes to a well-formed
instruction that encodes back to it and is accepted as SEND_RAW of its parts (30 R75, R86). -/
theorem decodeCommand_codecEncode (o a : Byte) (d : BitVec 16) :
    (decodeCommand (codecEncode o a d)).wellFormed = true ∧
    encodePort (decodeCommand (codecEncode o a d)) = .cmd (codecEncode o a d) ∧
    acceptRequest (decodeCommand (codecEncode o a d)) = sendChecked o a d .raw := by
  cases hname : namedCommand? o with
  | none =>
    rw [decodeCommand_unnamed hname]
    exact ⟨by simp [Instr.wellFormed, hname], rfl, rfl⟩
  | some c =>
    obtain rfl := namedCommand?_some hname
    rw [decodeCommand_named]
    cases c <;> exact ⟨rfl, rfl, rfl⟩

/-- Settles O2: the frame is the encoding of its own parts, and each row it can decode to encodes back to it. -/
theorem everyFramePatternIsAnInstruction : Obligations.EveryFramePatternIsAnInstruction := by
  intro f
  obtain ⟨hwf, hencode, -⟩ := decodeCommand_codecEncode f.f0 f.f1 (frameData f)
  rw [codecEncode_frameData] at hwf hencode
  refine ⟨⟨f.f0, f.f1, frameData f, codecEncode_frameData f⟩, ⟨_, rfl⟩, decodeCommand f, rfl, hwf, ?_⟩
  rw [encodeBytes, hencode, portBytes]

/-! ### Request bundles -/

/-- The fields of a request stand side by side on the port's wires, so each is read back from its place (30 R77). -/
theorem requestOfBits_requestBits (r : Request) : requestOfBits (requestBits r) = r := by
  obtain ⟨op, opcode, addr, data, range, ref, vrefValid, vref⟩ := r
  simp (disch := decide) only [requestOfBits, requestBits, BitVec.extractLsb'_append_eq_of_le,
    BitVec.extractLsb'_append_eq_right, BitVec.extractLsb'_eq_self, Nat.reduceSub]

/-- Bit `i` of the bundle that bytes hold is bit `i % 8` of byte `i / 8`. -/
theorem getLsbD_bundleOfBytes (bs : List Byte) (i : Nat) :
    (bundleOfBytes bs).getLsbD i = (decide (i < 112) && (bs.getD (i / 8) 0#8).getLsbD (i % 8)) := by
  induction bs generalizing i with
  | nil => simp [bundleOfBytes]
  | cons b bs ih =>
    simp only [bundleOfBytes, BitVec.getLsbD_or, BitVec.getLsbD_shiftLeft, BitVec.getLsbD_setWidth,
      BitVec.truncate_eq_setWidth, ih]
    by_cases hlow : i < 8
    · have hbyte : i / 8 = 0 := by omega
      have hbit : i % 8 = i := by omega
      simp [hlow, hbyte, hbit]
    · have hbyte : i / 8 = (i - 8) / 8 + 1 := by omega
      have hbit : i % 8 = (i - 8) % 8 := by omega
      have hhigh : b.getLsbD i = false := BitVec.getLsbD_of_ge b i (by omega)
      have hbound : i < 112 → i - 8 < 112 := by omega
      by_cases hi : i < 112
      · simp [hlow, hbyte, hbit, hhigh, hi, hbound hi]
      · simp [hi]

@[simp] theorem bundleBytes_length (b : BitVec 112) : (bundleBytes b).length = 14 := by simp [bundleBytes]

/-- The 14 bytes of a bundle hold that bundle (log 2). -/
@[simp] theorem bundleOfBytes_bundleBytes (b : BitVec 112) : bundleOfBytes (bundleBytes b) = b := by
  apply BitVec.eq_of_getLsbD_eq
  intro i hi
  have hbyte : (bundleBytes b).getD (i / 8) 0#8 = b.extractLsb' (8 * (i / 8)) 8 := by
    simp [bundleBytes, List.getD_eq_getElem?_getD, show i / 8 < 14 by omega]
  have hbit : 8 * (i / 8) + i % 8 = i := by omega
  rw [getLsbD_bundleOfBytes, hbyte, BitVec.getLsbD_extractLsb', hbit]
  simp [hi, show i % 8 < 8 by omega]

/-- Fourteen bytes are read as a request bundle (log 2). -/
theorem parsePort_bundle {bs : List Byte} (hlength : bs.length = 14) :
    parsePort bs =
      if (bundleOfBytes bs).extractLsb' 105 7 = 0#7 then
        .ok (.req (requestOfBits ((bundleOfBytes bs).extractLsb' 0 105)))
      else .error .strayBits := by
  unfold parsePort
  split
  · simp at hlength
  · exact if_pos hlength

/-- The bytes of a port word are read back as that port word. -/
theorem parsePort_portBytes (w : PortWord) : parsePort (portBytes w) = .ok w := by
  cases w with
  | cmd f => rfl
  | req r =>
    have hstray : (0#7 ++ requestBits r).extractLsb' 105 7 = 0#7 := BitVec.extractLsb'_append_eq_left
    have hwires : (0#7 ++ requestBits r).extractLsb' 0 105 = requestBits r := BitVec.extractLsb'_append_eq_right
    rw [portBytes, parsePort_bundle (bundleBytes_length _), bundleOfBytes_bundleBytes, if_pos hstray, hwires,
      requestOfBits_requestBits]

/-- The per-instruction family PortRoundTrip, put together. -/
theorem decodePort_encodePort (i : Instr) : Laws.PortRoundTrip.Statement i := by
  cases i with
  | nop a d => exact Laws.PortRoundTrip.nop a d
  | read a d => exact Laws.PortRoundTrip.read a d
  | readHword a d => exact Laws.PortRoundTrip.readHword a d
  | write a d => exact Laws.PortRoundTrip.write a d
  | writeMsbyte a d => exact Laws.PortRoundTrip.writeMsbyte a d
  | writeLsbyte a d => exact Laws.PortRoundTrip.writeLsbyte a d
  | setHword a d => exact Laws.PortRoundTrip.setHword a d
  | clearHword a d => exact Laws.PortRoundTrip.clearHword a d
  | unnamedOpcode o a d => exact Laws.PortRoundTrip.unnamedOpcode o a d
  | configure range ref vv v => exact Laws.PortRoundTrip.configure range ref vv v
  | sendRaw o a d => exact Laws.PortRoundTrip.sendRaw o a d
  | readRaw => exact Laws.PortRoundTrip.readRaw
  | readScaled => exact Laws.PortRoundTrip.readScaled
  | reserved100 => exact Laws.PortRoundTrip.reserved100
  | reserved101 => exact Laws.PortRoundTrip.reserved101
  | reserved110 => exact Laws.PortRoundTrip.reserved110
  | reserved111 => exact Laws.PortRoundTrip.reserved111

/-- Settles O1: the bytes give back the port word, and the port word the instruction. -/
theorem decodeBytesInvertsEncodeBytes : Obligations.DecodeBytesInvertsEncodeBytes := by
  intro i hwf
  rw [decodeBytes, encodeBytes, parsePort_portBytes]
  exact congrArg Except.ok (decodePort_encodePort i hwf)

/-- Settles O5, by evaluation of the decoder on the eight words. -/
theorem tableWordsDecodeToTheirRows : Obligations.TableWordsDecodeToTheirRows := by
  refine ⟨?_, ?_, ?_, ?_, ?_, ?_, ?_, ?_⟩ <;> decide

/-- Settles O6, by the request code: CONFIGURE and SEND_RAW read the fields the hypotheses name, the other codes
none. -/
theorem unusedRequestFieldsAreIgnored : Obligations.UnusedRequestFieldsAreIgnored := by
  intro r r' hop hconfigure hsendRaw
  unfold decodeRequest
  rw [← hop]
  split
  next hcode =>
    obtain ⟨hrange, href, hvalid, hvref⟩ := hconfigure (BitVec.eq_of_toNat_eq hcode)
    rw [hrange, href, hvalid, hvref]
  next hcode =>
    obtain ⟨hopcode, haddr, hdata⟩ := hsendRaw (BitVec.eq_of_toNat_eq hcode)
    rw [hopcode, haddr, hdata]
  all_goals rfl

end Sys2Proof

namespace Sys2Proof.Machine

/-! ### A decoded request at the port -/

theorem exec_free (i : Instr) {s : State} (hfree : s.occupied = false) : exec i s = .next (acceptRequest i s) :=
  (exec_eq_acceptOrHold i s).trans (acceptOrHold_free hfree)

theorem exec_occupied (i : Instr) {s : State} (hoccupied : s.occupied = true) : exec i s = .next (s.hold i) :=
  (exec_eq_acceptOrHold i s).trans (acceptOrHold_occupied hoccupied)

/-- Settles O7: SEND_RAW and every command frame are accepted as the same checked frame. -/
theorem shorthandsActAsSendRaw : Obligations.ShorthandsActAsSendRaw := by
  intro c a d s hfree
  obtain ⟨-, -, haccept⟩ := decodeCommand_codecEncode (commandOpcode c) (a.getD 0x00#8) (d.getD 0x0000#16)
  refine ⟨rfl, ?_⟩
  rw [exec_free _ hfree, exec_free _ hfree, decodePort, haccept, acceptRequest]

/-- Settles O8: the block is free and a request presented, so the port gives the oldest one. -/
theorem stepRunsTheDecodedRequest : Obligations.StepRunsTheDecodedRequest := by
  intro s w ws hturn hfree hport
  have hfetch : s.beginStep.fetch = some (w, { s.beginStep with requests := ws }) :=
    fetch_some.mpr ⟨hfree, ws, hport, rfl⟩
  rw [step, hturn]
  simp only [blockTurn, hfetch]
  rfl

theorem decodeTableWord_some {nbits w : Nat} {i : Instr} (h : decodeTableWord nbits w = some i) :
    ∃ p, parsePort (tableBytes nbits w) = .ok p ∧ decodePort p = i := by
  unfold decodeTableWord decodeBytes at h
  cases hparse : parsePort (tableBytes nbits w) with
  | ok p => exact ⟨p, rfl, by simpa [hparse] using h⟩
  | error e => simp [hparse] at h

/-- Settles O9: `withFetchWord` leaves a free block with the word at the head of the port and the block's turn next,
where a step runs it. -/
theorem presentedTableWordRunsNext : Obligations.PresentedTableWordRunsNext := by
  intro s nbits w i hdecode
  obtain ⟨p, hparse, rfl⟩ := decodeTableWord_some hdecode
  have hidle : fsmBusy (if fsmBusy s.fsm = true then .uninit else s.fsm) = false := by
    split
    · rfl
    · simpa using ‹¬ fsmBusy s.fsm = true›
  have hfetch : s.withFetchWord nbits w =
      { s with
        requests := p :: s.requests, agenda := .block :: s.agenda
        tx := none, hostOp := none, fsm := if fsmBusy s.fsm then .uninit else s.fsm } := by
    simp only [State.withFetchWord, hparse]
  rw [hfetch]
  exact stepRunsTheDecodedRequest _ p s.requests rfl (occupied_false.mpr ⟨hidle, rfl, rfl⟩) rfl

/-! ### The port while a request is in progress -/

@[simp] theorem sequencerAction_requests (s : State) : (sequencerAction s).requests = s.requests := by
  rcases sequencerAction_cases s with heq | ⟨-, -, heq⟩ | ⟨-, -, heq⟩ | ⟨-, -, heq⟩ | ⟨-, -, heq⟩ <;> rw [heq]
  · rfl
  · rfl
  · rfl
  · rcases cfgCheckAction_cases Config.maxAttempts s with ⟨-, heq⟩ | ⟨-, -, heq⟩ | ⟨-, -, heq⟩ <;> rw [heq]
    exact raise_requests ..

theorem blockMove_requests_occupied {s : State} (hoccupied : s.occupied = true) :
    (blockMove s).requests = s.requests := by
  have hport : s.fetch = none := fetch_none.mpr (.inl hoccupied)
  rw [blockMove, hport]
  exact sequencerAction_requests s

@[simp] theorem completeHostOp_requests (v : BitVec 16) (s : State) : (completeHostOp v s).requests = s.requests := by
  rcases completeHostOp_cases v s with ⟨-, heq⟩ | ⟨-, heq⟩ | ⟨-, heq⟩ <;> rw [heq]
  · exact respond_requests ..
  · rcases completeScaled_cases v s with ⟨-, heq⟩ | ⟨r, -, heq⟩ <;> rw [heq]
    · exact raise_requests ..
    · exact respond_requests ..

@[simp] theorem transportReturn_requests (rx : Frame) (s : State) : (transportReturn rx s).requests = s.requests := by
  rcases transportReturn_cases rx s with ⟨-, heq⟩ | ⟨f, -, heq⟩ <;> rw [heq]
  rcases completeExchange_cases rx s with
    ⟨-, heq⟩ | ⟨-, heq⟩ | ⟨-, heq⟩ | ⟨-, heq⟩ | ⟨-, heq⟩ | ⟨-, heq⟩ <;> rw [heq]
  · exact completeHostOp_requests _ s
  · exact respond_requests ..

@[simp] theorem settleSignal_requests (bound elapsed : Nat) (s : State) :
    (settleSignal bound elapsed s).requests = s.requests := by
  rcases settleSignal_cases bound elapsed s with heq | ⟨-, -, -, heq⟩ | ⟨-, -, -, heq⟩ <;> rw [heq]

/-- Settles O10, by whose turn it is: an occupied block takes nothing off the port, the caller adds a request at its
end, and no other turn touches it. -/
theorem requestsHoldWhileOneIsInProgress : Obligations.RequestsHoldWhileOneIsInProgress := by
  refine ⟨fun i s hoccupied => exec_occupied i hoccupied, ?_⟩
  intro s t hoccupied hstep
  rw [step_eq] at hstep
  cases hstep
  cases s.turn with
  | block => exact .inl (blockMove_requests_occupied (s := s.beginStep) hoccupied)
  | caller w => exact .inr ⟨w, rfl, rfl⟩
  | transport rx => exact .inl (transportReturn_requests rx s.beginStep)
  | settle elapsed => exact .inl (settleSignal_requests _ elapsed s.beginStep)
  | xport | reset => exact .inl rfl

/-! ### The verdict of a free block -/

/-- With no request in progress a rejection writes the response registers and nothing else (60 R236). -/
theorem raise_eq_rejected {s : State} {st : Status} (c : BitVec 2) (hfree : s.occupied = false)
    (hnoTimeout : st ≠ .configurationTimeout) : s.raise st c = rejected st c s := by
  obtain ⟨-, hop, htx⟩ := occupied_false.mp hfree
  rw [raise_eq_respond st c s hnoTimeout, rejected, State.respond, ← hop, ← htx]

/-- Settles O11: the three ways an accepted request can go, read for a free block. -/
theorem everyRequestGetsAVerdict : Obligations.EveryRequestGetsAVerdict := by
  intro w s hfree
  refine ⟨acceptRequest (decodePort w) s, exec_free _ hfree, ?_⟩
  generalize hresult : acceptRequest (decodePort w) s = t
  have haccept : Acceptance (decodePort w) s t := hresult ▸ .of_acceptRequest (decodePort w) s
  cases haccept with
  | @rejected st c herror hnoTimeout =>
    refine .inr (.inr ⟨st, c, ?_, raise_eq_rejected c hfree hnoTimeout⟩)
    cases st <;> simp at herror hnoTimeout ⊢
  | @sent f op hframe => exact .inl ⟨f, op, hframe, rfl⟩
  | @loaded range r ref vv v hrequest =>
    obtain ⟨-, -, htx⟩ := occupied_false.mp hfree
    exact .inr (.inl ⟨range, ref, vv, v, hrequest, rfl, htx, rfl⟩)

/-- Outside the sequencer's states a return completes the caller's operation (41 R132, 43 R212). -/
theorem completeExchange_idle {rx : Frame} {s : State} (hidle : fsmBusy s.fsm = false) :
    completeExchange rx s = completeHostOp (codecDecode rx) s := by
  rcases fsmBusy_false.mp hidle with hfsm | hfsm <;> rw [completeExchange, hfsm]

theorem sendChecked_ready {o a : Byte} {d : BitVec 16} {op : HostOp} {s : State} (hready : s.xportStatus = 0#2) :
    sendChecked o a d op s = s.startExchange (codecEncode o a d) (some op) := by
  rw [sendChecked, transportVerdict_none.mpr hready]

/-- The return of an exchange that SEND_RAW, READ_RAW or a command frame waits for ends it with OK and the decoded
value (43 R205). -/
theorem step_transport_raw {s : State} {f rx : Frame} {rest : List Turn} (hidle : fsmBusy s.fsm = false) :
    step { s with tx := some f, hostOp := some .raw, agenda := .transport rx :: rest } =
      .next (answered (codecDecode rx) 0#64 { s with agenda := rest }) := by
  rw [step_eq]
  exact congrArg Host.Outcome.next (completeExchange_idle hidle)

/-- An instruction that a free block accepts as a checked frame is carried out whole once the transport is ready. -/
theorem sendsThenAnswers_of_sendChecked {i : Instr} {o a : Byte} {d : BitVec 16} {s : State}
    (haccept : acceptRequest i s = sendChecked o a d .raw s) (hfree : s.occupied = false)
    (hready : s.xportStatus = 0#2) : sendsThenAnswers i .raw (codecEncode o a d) (fun _ => 0#64) s := by
  obtain ⟨hidle, -, -⟩ := occupied_false.mp hfree
  refine ⟨?_, fun rx rest => step_transport_raw hidle⟩
  rw [exec_free i hfree, haccept, sendChecked_ready hready, State.startExchange]

/-- Settles O13: an unnamed opcode is accepted as a checked frame, like any other. -/
theorem unnamedOpcodesSendTheirFrame : Obligations.UnnamedOpcodesSendTheirFrame :=
  fun _ _ _ _ hfree hready => sendsThenAnswers_of_sendChecked rfl hfree hready

/-- Settles O18: in READY the sampling check passes, and both are accepted as the checked NOP frame. -/
theorem readRawIsSendRawNopInReady : Obligations.ReadRawIsSendRawNopInReady := by
  intro s hready hfree
  have haccept : sampleAccepted .raw s = sendChecked 0x00#8 0x00#8 0x0000#16 .raw s := if_pos hready
  rw [exec_free _ hfree, exec_free _ hfree, acceptRequest, acceptRequest, haccept]

/-- With the Internal reference neither the field checks nor the load read the voltage fields (30 R83, 43 R201). -/
theorem configureAccepted_internal (range : BitVec 4) (vv vv' : Bool) (v v' : F64) (s : State) :
    configureAccepted range .internal vv v s = configureAccepted range .internal vv' v' s := by
  have hverdict : configureVerdict range .internal vv v = configureVerdict range .internal vv' v' := rfl
  unfold configureAccepted
  rw [hverdict]
  rfl

/-- Settles O21: a free block accepts both, and the acceptance is the same. -/
theorem internalReferenceIgnoresVoltage : Obligations.InternalReferenceIgnoresVoltage := by
  intro range vv vv' v v' s hfree
  rw [exec_free _ hfree, exec_free _ hfree, acceptRequest, acceptRequest, configureAccepted_internal]

end Sys2Proof.Machine
end

section
/-! PROOFS. The frame codec of 40_frame_codec: the register value it reads from a response frame, and the exchange of
each named device command. -/

namespace Sys2Proof.Machine

/-- The decoded value is byte 0 followed by byte 1 (40 R101). -/
theorem codecDecode_eq_append (r : Frame) : codecDecode r = r.f0 ++ r.f1 := by
  have hf0 : (valueFrame (r.f0 ++ r.f1)).f0 = r.f0 := BitVec.extractLsb'_append_eq_left
  have hf1 : (valueFrame (r.f0 ++ r.f1)).f1 = r.f1 := BitVec.extractLsb'_append_eq_right
  calc codecDecode r
    _ = codecDecode (valueFrame (r.f0 ++ r.f1)) := by rw [codecDecode, codecDecode, hf0, hf1]
    _ = r.f0 ++ r.f1 := codecDecode_valueFrame _

theorem codecDecode_toNat (r : Frame) : (codecDecode r).toNat = r.f0.toNat * 256 + r.f1.toNat := by
  rw [codecDecode_eq_append]
  exact append_toNat r.f0 r.f1

/-- Settles O4: the value is a function of bytes 0 and 1, which the codec fills with the opcode and the address. -/
theorem codecDecodesFirstTwoBytes : Obligations.CodecDecodesFirstTwoBytes :=
  ⟨fun _ _ _ _ _ _ => ⟨codecDecode_toNat _, rfl⟩, fun o a d => codecDecode_toNat (codecEncode o a d)⟩

/-- A command frame, presented to a free block with the transport ready, goes out as it stands, and the return answers
it (30 R75, R86). -/
theorem commandFrame_sendsThenAnswers (o a : Byte) (d : BitVec 16) {s : State} (hfree : s.occupied = false)
    (hready : s.xportStatus = 0#2) :
    sendsThenAnswers (decodeCommand (codecEncode o a d)) .raw (codecEncode o a d) (fun _ => 0#64) s := by
  obtain ⟨-, -, haccept⟩ := decodeCommand_codecEncode o a d
  exact sendsThenAnswers_of_sendChecked (congrFun haccept s) hfree hready

/-- Settles O12: each named command's frame decodes to that command, and goes out as every command frame does. -/
theorem namedCommandsSendTheirFrame : Obligations.NamedCommandsSendTheirFrame := by
  intro a d s hfree hready
  have hsends (c : DeviceCommand) := commandFrame_sendsThenAnswers (commandOpcode c) a d hfree hready
  simp only [decodeCommand_named] at hsends
  exact ⟨hsends .nop, hsends .read, hsends .readHword, hsends .write, hsends .writeMsbyte, hsends .writeLsbyte,
    hsends .setHword, hsends .clearHword⟩

end Sys2Proof.Machine
end

section
/-! PROOFS. The Device Configuration Sequencer of 41_config_sequencer, turn by turn: what the block's turn, the
transport's return and the settle signal do in each of its states. -/

namespace Sys2Proof.Machine

/-! ### Whose turn it is -/

theorem occupied_of_busy {s : State} (hbusy : fsmBusy s.fsm = true) : s.occupied = true := by
  simp [State.occupied, hbusy]

theorem turn_of_agenda {s : State} {a : Turn} {rest : List Turn} (hagenda : s.agenda = a :: rest) : s.turn = a := by
  rw [State.turn, hagenda, List.headD_cons]

theorem beginStep_of_agenda {s : State} {a : Turn} {rest : List Turn} (hagenda : s.agenda = a :: rest) :
    s.beginStep = { s with rspValid := false, agenda := rest } := by
  rw [State.beginStep, hagenda, List.tail_cons]

/-- The block's turn goes to the sequencer while it runs: no request is accepted (30 R80, 41 R132). -/
theorem blockMove_busy {s : State} (hbusy : fsmBusy s.fsm = true) : blockMove s = sequencerAction s := by
  have hport : s.fetch = none := fetch_none.mpr (.inl (occupied_of_busy hbusy))
  rw [blockMove, hport]

theorem step_block_busy {s : State} (hturn : s.turn = .block) (hbusy : fsmBusy s.fsm = true) :
    step s = .next (sequencerAction s.beginStep) := by
  rw [step_eq, hturn]
  exact congrArg Host.Outcome.next (blockMove_busy hbusy)

theorem step_transport {s : State} {rx f : Frame} (hturn : s.turn = .transport rx) (htx : s.tx = some f) :
    step s = .next (completeExchange rx s.beginStep) := by
  have hreturn : transportReturn rx s.beginStep = completeExchange rx s.beginStep := by
    rw [transportReturn, beginStep_tx, htx]
  rw [step_eq, hturn, turnMove, hreturn]

theorem step_settle {s : State} {elapsed : Nat} (hturn : s.turn = .settle elapsed) :
    step s = .next (settleSignal Config.tSettle elapsed s.beginStep) := by
  rw [step_eq, hturn, turnMove]

/-! ### The sequencer's own action, state by state -/

theorem sequencerAction_cfgWrite {s : State} (hfsm : s.fsm = .cfgWrite) (htx : s.tx = none) :
    sequencerAction s = cfgWriteAction s := by
  simp only [sequencerAction, htx, hfsm]

theorem sequencerAction_cfgReadReq {s : State} (hfsm : s.fsm = .cfgReadReq) (htx : s.tx = none) :
    sequencerAction s = s.startExchange (codecEncode 0xC8#8 0x14#8 0x0000#16) none := by
  rw [sequencerAction, htx, hfsm]
  rfl

theorem sequencerAction_nop {s : State} (hfsm : s.fsm = .cfgNop ∨ s.fsm = .cfgFlush) (htx : s.tx = none) :
    sequencerAction s = s.startExchange (codecEncode 0x00#8 0x00#8 0x0000#16) none := by
  rcases hfsm with hfsm | hfsm <;> rw [sequencerAction, htx, hfsm] <;> rfl

theorem sequencerAction_cfgCheck {s : State} (hfsm : s.fsm = .cfgCheck) (htx : s.tx = none) :
    sequencerAction s = cfgCheckAction Config.maxAttempts s := by
  rw [sequencerAction, htx, hfsm]

theorem cfgCheckAction_match {bound : Nat} {s : State} (hmatch : s.got = s.cmd) :
    cfgCheckAction bound s = { s with fsm := .cfgFlush } :=
  if_pos hmatch

theorem cfgCheckAction_retry {bound : Nat} {s : State} (hmismatch : s.got ≠ s.cmd) (hleft : s.attempt < bound) :
    cfgCheckAction bound s = { s with fsm := .cfgWrite } :=
  (if_neg hmismatch).trans (if_pos hleft)

theorem cfgCheckAction_timeout {bound : Nat} {s : State} (hmismatch : s.got ≠ s.cmd) (hlast : bound ≤ s.attempt) :
    cfgCheckAction bound s = s.raise .configurationTimeout 0#2 :=
  (if_neg hmismatch).trans (if_neg (Nat.not_lt.mpr hlast))

/-- With no operation in progress the sequencer's frame is all that an exchange changes (40 R105). -/
theorem startExchange_none {s : State} (hop : s.hostOp = none) (f : Frame) :
    s.startExchange f none = { s with tx := some f } := by
  rw [State.startExchange, ← hop]

/-- With no exchange or operation in progress a response is all that its registers hold (43 R212). -/
theorem respond_idleInterface {s : State} {st : Status} {c : BitVec 2} {v : BitVec 16} {x : F64} (htx : s.tx = none)
    (hop : s.hostOp = none) :
    s.respond st c v x =
      { s with
        rspStatus := st, rspCause := c, rspValue := v, rspVolts := x, rspPresent := true, rspValid := true } := by
  rw [State.respond, ← hop, ← htx]

/-! ### The transport's return and the settle signal, state by state -/

theorem completeExchange_cfgWrite {s : State} {rx : Frame} (hfsm : s.fsm = .cfgWrite) :
    completeExchange rx s = { s with tx := none, fsm := .cfgSettle1 } := by
  rw [completeExchange, hfsm]

theorem completeExchange_cfgReadReq {s : State} {rx : Frame} (hfsm : s.fsm = .cfgReadReq) :
    completeExchange rx s = { s with tx := none, fsm := .cfgNop } := by
  rw [completeExchange, hfsm]

theorem completeExchange_cfgNop {s : State} {rx : Frame} (hfsm : s.fsm = .cfgNop) :
    completeExchange rx s =
      { s with tx := none, got := codecDecode rx, gotPresent := true, fsm := .cfgSettle2 } := by
  rw [completeExchange, hfsm]

theorem completeExchange_cfgFlush {s : State} {rx : Frame} (hfsm : s.fsm = .cfgFlush) :
    completeExchange rx s = { s with fsm := .ready }.respond .ok 0#2 (attemptValue s.attempt) 0#64 := by
  rw [completeExchange, hfsm]

theorem settleSignal_cfgSettle1 {s : State} {bound elapsed : Nat} (hfsm : s.fsm = .cfgSettle1) (htx : s.tx = none)
    (helapsed : bound ≤ elapsed) : settleSignal bound elapsed s = { s with fsm := .cfgReadReq } := by
  simp only [settleSignal, if_pos helapsed, htx, hfsm]

theorem settleSignal_cfgSettle2 {s : State} {bound elapsed : Nat} (hfsm : s.fsm = .cfgSettle2) (htx : s.tx = none)
    (helapsed : bound ≤ elapsed) : settleSignal bound elapsed s = { s with fsm := .cfgCheck } := by
  simp only [settleSignal, if_pos helapsed, htx, hfsm]

/-- A signal before the interval is over changes nothing (41 R134, R137; log 9). -/
theorem settleSignal_early {s : State} {bound elapsed : Nat} (hearly : elapsed < bound) :
    settleSignal bound elapsed s = s :=
  if_neg (Nat.not_le.mpr hearly)

/-- The attempt register as the response carries it (41 R139): saturated at the largest 16-bit value. -/
theorem attemptValue_eq_ite (n : Nat) :
    attemptValue n = if n ≤ 65535 then BitVec.ofNat 16 n else 0xFFFF#16 := by
  unfold attemptValue
  split
  next hfits => rw [Nat.min_eq_left hfits]
  next hlarge => rw [Nat.min_eq_right (by omega)]

/-! ### The obligations, one for each row of 41 R132 -/

/-- The block's turn in a state of the sequencer that sends a frame (41 R133, R135, R136, R139). -/
theorem step_sequencerSends {s begun : State} {f : Frame} (hturn : s.turn = .block) (hbusy : fsmBusy s.fsm = true)
    (haction : sequencerAction s.beginStep = begun.startExchange f none) (hop : begun.hostOp = none) :
    step s = .next { begun with tx := some f } := by
  rw [step_block_busy hturn hbusy, haction, startExchange_none hop]

/-- The transport's return in any state, from what the return does there. -/
theorem step_transportReturns {s t : State} {rx f : Frame} (hturn : s.turn = .transport rx) (htx : s.tx = some f)
    (hreturn : completeExchange rx s.beginStep = t) : step s = .next t :=
  (step_transport hturn htx).trans (congrArg Host.Outcome.next hreturn)

/-- Settles O23: the block's turn counts the iteration and starts the exchange, and its return is discarded. -/
theorem cfgWriteSendsCommand : Obligations.CfgWriteSendsCommand := by
  intro s hfsm htx hop _ hturn
  constructor
  · exact step_sequencerSends hturn (hfsm ▸ rfl) (sequencerAction_cfgWrite hfsm htx) hop
  · intro rx rest
    rw [htx]
    exact step_transportReturns rfl rfl (completeExchange_cfgWrite hfsm)

/-- Settles O25: as CFG_WRITE, with the read request and no count. -/
theorem cfgReadReqSendsReadHword : Obligations.CfgReadReqSendsReadHword := by
  intro s hfsm htx hop hturn
  constructor
  · exact step_sequencerSends hturn (hfsm ▸ rfl) (sequencerAction_cfgReadReq hfsm htx) hop
  · intro rx rest
    rw [htx]
    exact step_transportReturns rfl rfl (completeExchange_cfgReadReq hfsm)

/-- Settles O26: the return of the NOP writes the decoded value to `got`. -/
theorem cfgNopCapturesTheReadBack : Obligations.CfgNopCapturesTheReadBack := by
  intro s hfsm htx hop hturn
  constructor
  · exact step_sequencerSends hturn (hfsm ▸ rfl) (sequencerAction_nop (.inl hfsm) htx) hop
  · intro rx rest
    rw [htx]
    exact step_transportReturns rfl rfl (completeExchange_cfgNop hfsm)

/-- Settles O29: the return of the flush NOP ends the request; the saturated minimum is the value of R139. -/
theorem cfgFlushEndsReady : Obligations.CfgFlushEndsReady := by
  intro s hfsm htx hop hturn
  constructor
  · exact step_sequencerSends hturn (hfsm ▸ rfl) (sequencerAction_nop (.inr hfsm) htx) hop
  · intro rx rest
    rw [htx, hop, ← attemptValue_eq_ite]
    exact step_transportReturns rfl rfl (completeExchange_cfgFlush hfsm)

/-- Settles O24: each settle state moves on with a signal of at least the interval and ignores an earlier one. -/
theorem settleStatesWaitForTheInterval : Obligations.SettleStatesWaitForTheInterval := by
  refine ⟨Nat.succ_pos _, fun s elapsed rest htx hagenda => ?_⟩
  rw [step_settle (turn_of_agenda hagenda), beginStep_of_agenda hagenda]
  refine ⟨fun hfsm helapsed => ?_, fun hfsm helapsed => ?_, fun _ hearly => ?_⟩
  · exact congrArg Host.Outcome.next (settleSignal_cfgSettle1 hfsm htx helapsed)
  · exact congrArg Host.Outcome.next (settleSignal_cfgSettle2 hfsm htx helapsed)
  · exact congrArg Host.Outcome.next (settleSignal_early hearly)

/-- The block's turn in CFG_CHECK is the comparison against MAX_ATTEMPTS (41 R138). -/
theorem step_cfgCheck {s : State} (hturn : s.turn = .block) (hfsm : s.fsm = .cfgCheck) (htx : s.tx = none) :
    step s = .next (cfgCheckAction Config.maxAttempts s.beginStep) :=
  (step_block_busy hturn (hfsm ▸ rfl)).trans (congrArg Host.Outcome.next (sequencerAction_cfgCheck hfsm htx))

/-- Settles O27: the match and the retry of the comparison. -/
theorem cfgCheckComparesExactly : Obligations.CfgCheckComparesExactly := by
  intro s hfsm htx _ _ hturn
  rw [step_cfgCheck hturn hfsm htx]
  refine ⟨fun hmatch => ?_, fun hmismatch hleft => ?_⟩
  · exact congrArg Host.Outcome.next (cfgCheckAction_match hmatch)
  · exact congrArg Host.Outcome.next (cfgCheckAction_retry hmismatch hleft)

/-- Settles O28: the last mismatch raises the timeout, which clears `cfg_valid` and writes the response. -/
theorem lastMismatchTimesOut : Obligations.LastMismatchTimesOut := by
  intro s hfsm htx hop _ _ hturn hmismatch hlast
  have htimeout : cfgCheckAction Config.maxAttempts s.beginStep = s.beginStep.raise .configurationTimeout 0#2 :=
    cfgCheckAction_timeout hmismatch hlast.ge
  rw [step_cfgCheck hturn hfsm htx, htimeout, raise_timeout]
  exact congrArg Host.Outcome.next (respond_idleInterface htx hop)

end Sys2Proof.Machine
end

section
/-! PROOFS. The sequencer of 41_config_sequencer over every step: its transitions, that nothing interrupts it, and that
every turn it waits for brings it nearer its end. -/

namespace Sys2Proof.Machine

/-! ### Transitions -/

theorem not_free_of_busy {s : State} (hbusy : fsmBusy s.fsm = true) : s.occupied ≠ false := by
  simp [occupied_of_busy hbusy]

/-- Settles O30: of the effects a turn can have, those with a busy `fsm_state` before them stay in it or are rows of
the table. -/
theorem sequencerTransitionsAreTheTable : Obligations.SequencerTransitionsAreTheTable := by
  intro s t hbusy hstep hnoReset hmoved
  have hnotIdle : fsmBusy s.fsm ≠ false := by simp [hbusy]
  cases turnEffect_of_step hstep with
  | reset hturn => exact absurd hturn hnoReset
  | rejected _ hfree | requestSent _ hfree | loaded _ hfree => exact absurd hfree (not_free_of_busy hbusy)
  | rawDone _ _ hidle | scaledDone _ _ hidle | engineRefused _ _ hidle => exact absurd hidle hnotIdle
  | inputs | writeSent | readSent | nopSent | exchangeDropped => exact absurd rfl hmoved
  | @writeDone rx f hturn htx hfsm => exact .inl ⟨hfsm, Option.isSome_of_mem htx, ⟨rx, hturn⟩, rfl⟩
  | @settled1 n hturn helapsed _ hfsm => exact .inr (.inl ⟨hfsm, ⟨n, hturn, helapsed⟩, rfl⟩)
  | @readDone rx f hturn htx hfsm => exact .inr (.inr (.inl ⟨hfsm, Option.isSome_of_mem htx, ⟨rx, hturn⟩, rfl⟩))
  | @readBack rx f hturn htx hfsm =>
    exact .inr (.inr (.inr (.inl ⟨hfsm, Option.isSome_of_mem htx, ⟨rx, hturn⟩, rfl⟩)))
  | @settled2 n hturn helapsed _ hfsm => exact .inr (.inr (.inr (.inr (.inl ⟨hfsm, ⟨n, hturn, helapsed⟩, rfl⟩))))
  | converged hturn _ hfsm hmatch => exact .inr (.inr (.inr (.inr (.inr (.inl ⟨hfsm, hturn, hmatch, rfl⟩)))))
  | retried hturn _ hfsm hmatch hleft =>
    exact .inr (.inr (.inr (.inr (.inr (.inr (.inl ⟨hfsm, hturn, hmatch, hleft, rfl⟩))))))
  | timedOut hturn _ hfsm hmatch hlast =>
    exact .inr (.inr (.inr (.inr (.inr (.inr (.inr (.inl ⟨hfsm, hturn, hmatch, hlast, rfl⟩)))))))
  | @flushed rx f hturn htx hfsm =>
    exact .inr (.inr (.inr (.inr (.inr (.inr (.inr (.inr ⟨hfsm, Option.isSome_of_mem htx, ⟨rx, hturn⟩, rfl⟩)))))))

/-- Settles O31: a busy block is occupied, so the port keeps its requests; of the effects, only a reset, the end of the
flush and the timeout leave the busy states. -/
theorem sequencerIsNotInterrupted : Obligations.SequencerIsNotInterrupted := by
  intro s t hbusy hstep
  obtain ⟨-, hport⟩ := requestsHoldWhileOneIsInProgress
  refine ⟨hport s t (occupied_of_busy hbusy) hstep, fun hended => ?_⟩
  have hnotIdle : fsmBusy s.fsm ≠ false := by simp [hbusy]
  cases turnEffect_of_step hstep with
  | reset hturn => exact .inl hturn
  | flushed _ _ hfsm => exact .inr (.inl ⟨hfsm, rfl, rfl, rfl⟩)
  | timedOut _ _ hfsm => exact .inr (.inr ⟨hfsm, rfl, rfl, rfl, rfl⟩)
  | rejected _ hfree | requestSent _ hfree | loaded _ hfree => exact absurd hfree (not_free_of_busy hbusy)
  | rawDone _ _ hidle | scaledDone _ _ hidle | engineRefused _ _ hidle => exact absurd hidle hnotIdle
  | inputs | writeSent | readSent | nopSent | exchangeDropped => exact absurd hended hnotIdle
  | converged | retried | settled1 | settled2 | writeDone | readDone | readBack => cases hended

/-! ### Progress -/

/-- The three kinds of turn the sequencer can wait for (00_scope R14). -/
theorem effectiveTurn_true {s : State} :
    effectiveTurn s = true ↔
      (∃ f rx, s.tx = some f ∧ s.turn = .transport rx) ∨
      (∃ n, s.tx = none ∧ s.turn = .settle n ∧ fsmSettling s.fsm = true ∧ Config.tSettle ≤ n) ∨
      (s.tx = none ∧ s.turn = .block ∧ fsmSettling s.fsm = false) := by
  unfold effectiveTurn
  cases s.tx <;> cases s.turn <;> simp

/-- Once an iteration has been counted, the work left is at most that of a CONFIGURE just loaded. -/
theorem workLeft_le_of_counted {s : State} (hcounted : 1 ≤ s.attempt) (hbound : s.attempt ≤ Config.maxAttempts) :
    workLeft s ≤ 9 * Config.maxAttempts + 2 := by
  unfold workLeft
  split <;> omega

theorem Inv.workLeft_le {s : State} (h : Inv s) (hbusy : fsmBusy s.fsm = true) :
    workLeft s ≤ 9 * Config.maxAttempts + 2 := by
  rcases h.attempt_counted hbusy with ⟨hfsm, htx⟩ | hcounted
  · simp only [workLeft, hfsm, htx]
    omega
  · exact workLeft_le_of_counted hcounted h.attempt_bound

/-- The end of an exchange takes one turn off the work left. -/
theorem Inv.workLeft_completeExchange {s : State} {f : Frame} (h : Inv s) (hbusy : fsmBusy s.fsm = true)
    (htx : s.tx = some f) (rx : Frame) : workLeft (completeExchange rx s) < workLeft s := by
  rcases completeExchange_cases rx s with
    ⟨hidle, -⟩ | ⟨hfsm, heq⟩ | ⟨hfsm, heq⟩ | ⟨hfsm, heq⟩ | ⟨hfsm, heq⟩ | ⟨hnobody, -⟩
  · exact absurd (fsmBusy_false.mpr hidle) (by simp [hbusy])
  · simp [heq, workLeft, hfsm, htx]
  · simp [heq, workLeft, hfsm, htx]
  · simp [heq, workLeft, hfsm, htx]
  · simp [heq, workLeft, hfsm, htx]
  · exact absurd (.inr hnobody) (h.exchange_awaited htx)

/-- The end of a settle wait takes at least one turn off the work left. -/
theorem workLeft_settleSignal {s : State} {bound elapsed : Nat} (hsettling : fsmSettling s.fsm = true)
    (htx : s.tx = none) (helapsed : bound ≤ elapsed) : workLeft (settleSignal bound elapsed s) < workLeft s := by
  cases hfsm : s.fsm with
  | cfgSettle1 => simp [settleSignal_cfgSettle1 hfsm htx helapsed, workLeft, hfsm, htx]
  | cfgSettle2 => simp [settleSignal_cfgSettle2 hfsm htx helapsed, workLeft, hfsm, htx]
  | uninit | cfgWrite | cfgReadReq | cfgNop | cfgCheck | cfgFlush | ready => simp [hfsm, fsmSettling] at hsettling

/-- The comparison of CFG_CHECK leaves the flush, the iterations left, or nothing. -/
theorem workLeft_cfgCheckAction {s : State} (hfsm : s.fsm = .cfgCheck) (htx : s.tx = none) :
    workLeft (cfgCheckAction Config.maxAttempts s) < workLeft s := by
  rcases cfgCheckAction_cases Config.maxAttempts s with ⟨-, heq⟩ | ⟨-, -, heq⟩ | ⟨-, -, heq⟩
  · simp [heq, workLeft, hfsm, htx]
  · simp [heq, workLeft, hfsm, htx]
  · simp [heq, workLeft, hfsm, raise_fsm]

/-- The sequencer's own action takes at least one turn off the work left; CFG_WRITE does it by counting the
iteration, of which one is left. -/
theorem Inv.workLeft_sequencerAction {s : State} (h : Inv s) (hbusy : fsmBusy s.fsm = true)
    (hsettling : fsmSettling s.fsm = false) (htx : s.tx = none) : workLeft (sequencerAction s) < workLeft s := by
  cases hfsm : s.fsm with
  | cfgWrite =>
    have hleft := h.attempt_left hfsm htx
    simp only [sequencerAction_cfgWrite hfsm htx, cfgWriteAction, workLeft, startExchange_fsm, startExchange_tx,
      startExchange_attempt, hfsm, htx]
    omega
  | cfgReadReq => simp [sequencerAction_cfgReadReq hfsm htx, workLeft, hfsm, htx]
  | cfgNop => simp [sequencerAction_nop (.inl hfsm) htx, workLeft, hfsm, htx]
  | cfgCheck => exact sequencerAction_cfgCheck hfsm htx ▸ workLeft_cfgCheckAction hfsm htx
  | cfgFlush => simp [sequencerAction_nop (.inr hfsm) htx, workLeft, hfsm, htx]
  | cfgSettle1 | cfgSettle2 => simp [hfsm, fsmSettling] at hsettling
  | uninit | ready => simp [hfsm, fsmBusy] at hbusy

theorem workLeft_beginStep (s : State) : workLeft s.beginStep = workLeft s := rfl

/-- Every turn the sequencer waits for lowers the work left. -/
theorem Inv.workLeft_effective {s t : State} (h : Inv s) (hbusy : fsmBusy s.fsm = true) (hstep : step s = .next t)
    (heffective : effectiveTurn s = true) : workLeft t < workLeft s := by
  rw [← workLeft_beginStep s]
  rcases effectiveTurn_true.mp heffective with
    ⟨f, rx, htx, hturn⟩ | ⟨n, htx, hturn, hsettling, helapsed⟩ | ⟨htx, hturn, hsettling⟩
  · rw [step_transport hturn htx] at hstep
    cases hstep
    exact h.beginStep.workLeft_completeExchange hbusy htx rx
  · rw [step_settle hturn] at hstep
    cases hstep
    exact workLeft_settleSignal hsettling htx helapsed
  · rw [step_block_busy hturn hbusy] at hstep
    cases hstep
    exact h.beginStep.workLeft_sequencerAction hbusy hsettling htx

/-- A turn the sequencer does not wait for changes the block's inputs, or nothing, unless it is a reset. -/
theorem Inv.inputs_of_ineffective {s t : State} (h : Inv s) (hbusy : fsmBusy s.fsm = true) (hstep : step s = .next t)
    (hineffective : effectiveTurn s = false) (hnoReset : s.turn ≠ .reset) :
    ∃ reqs x, t = { s.beginStep with requests := reqs, xportStatus := x } := by
  have hnotIdle : fsmBusy s.fsm ≠ false := by simp [hbusy]
  have hnotEffective : ¬ effectiveTurn s = true := by simp [hineffective]
  rw [effectiveTurn_true] at hnotEffective
  cases turnEffect_of_step hstep with
  | inputs reqs x => exact ⟨reqs, x, rfl⟩
  | reset hturn => exact absurd hturn hnoReset
  | rejected _ hfree | requestSent _ hfree | loaded _ hfree => exact absurd hfree (not_free_of_busy hbusy)
  | rawDone _ _ hidle | scaledDone _ _ hidle | engineRefused _ _ hidle => exact absurd hidle hnotIdle
  | exchangeDropped _ htx hnobody => exact absurd hnobody (h.exchange_awaited htx)
  | @writeDone rx f hturn htx | @readDone rx f hturn htx | @readBack rx f hturn htx | @flushed rx f hturn htx =>
    exact absurd (.inl ⟨f, rx, htx, hturn⟩) hnotEffective
  | @settled1 n hturn helapsed htx hfsm | @settled2 n hturn helapsed htx hfsm =>
    rw [beginStep_fsm] at hfsm
    exact absurd (.inr (.inl ⟨n, htx, hturn, hfsm ▸ rfl, helapsed⟩)) hnotEffective
  | writeSent hturn htx hfsm | readSent hturn htx hfsm | converged hturn htx hfsm | retried hturn htx hfsm
  | timedOut hturn htx hfsm =>
    rw [beginStep_fsm] at hfsm
    exact absurd (.inr (.inr ⟨htx, hturn, hfsm ▸ rfl⟩)) hnotEffective
  | nopSent hturn htx hfsm =>
    have hsettling : fsmSettling s.fsm = false := by
      rcases hfsm with hfsm | hfsm <;> exact congrArg fsmSettling hfsm
    exact absurd (.inr (.inr ⟨htx, hturn, hsettling⟩)) hnotEffective

/-- Settles O32: the bound, the turns that lower the work left, and those that leave it. -/
theorem sequencerMakesProgress : Obligations.SequencerMakesProgress := by
  intro s t h hbusy hstep
  refine ⟨h.workLeft_le hbusy, h.workLeft_effective hbusy hstep, fun hineffective hnoReset => ?_⟩
  obtain ⟨reqs, x, rfl⟩ := h.inputs_of_ineffective hbusy hstep hineffective hnoReset
  exact ⟨rfl, rfl⟩

end Sys2Proof.Machine
end

section
/-! PROOFS. The sequencer against its environment: the read-back and the first sample under PIPE (60 R247), and the
runs of a CONFIGURE closed with CONVERGE and NEVER (60 R249). -/

namespace Sys2Proof.Machine

/-! ### Requests a free block accepts -/

/-- The block's turn with a request at the port of a free block (30 R80). -/
theorem blockMove_accept {s : State} {i : Instr} {ws : List PortWord} (hfree : s.occupied = false)
    (hport : s.requests = encodePort i :: ws) (hwf : i.wellFormed = true) :
    blockMove s = acceptRequest i { s with requests := ws } := by
  have hfetch : s.fetch = some (encodePort i, { s with requests := ws }) := fetch_some.mpr ⟨hfree, ws, hport, rfl⟩
  simp only [blockMove, hfetch, decodePort_encodePort i hwf]

theorem step_accept {s : State} {i : Instr} {ws : List PortWord} (hturn : s.turn = .block)
    (hfree : s.occupied = false) (hport : s.requests = encodePort i :: ws) (hwf : i.wellFormed = true) :
    step s = .next (acceptRequest i { s.beginStep with requests := ws }) := by
  have haccept := blockMove_accept (s := s.beginStep) hfree hport hwf
  rw [step_eq, hturn, turnMove, haccept]

/-- READ_RAW in READY with the transport ready sends the NOP (43 R207). -/
theorem acceptRequest_readRaw {s : State} (hready : s.fsm = .ready) (hxport : s.xportStatus = 0#2) :
    acceptRequest .readRaw s = s.startExchange (codecEncode 0x00#8 0x00#8 0x0000#16) (some .raw) :=
  (if_pos hready).trans (sendChecked_ready hxport)

theorem step_readRaw {s : State} {ws : List PortWord} (hturn : s.turn = .block) (hfree : s.occupied = false)
    (hready : s.fsm = .ready) (hport : s.requests = encodePort .readRaw :: ws) (hxport : s.xportStatus = 0#2) :
    step s = .next
      ({ s.beginStep with requests := ws }.startExchange (codecEncode 0x00#8 0x00#8 0x0000#16) (some .raw)) := by
  have haccept : acceptRequest .readRaw { s.beginStep with requests := ws } = _ := acceptRequest_readRaw hready hxport
  rw [step_accept hturn hfree hport rfl, haccept]

/-- A legal CONFIGURE passes its field checks (43 R201). -/
theorem configureVerdict_legal {range : InputRange} {ref : RefMode} {vv : Bool} {v : F64}
    (hvref : ref = .external → vv = true ∧ vrefValid v = true) :
    configureVerdict (rangeIndex range) ref vv v = .ok range := by
  have hrange : inputRange? (rangeIndex range) = some range := inputRange?_some.mpr rfl
  cases ref with
  | internal => simp only [configureVerdict, hrange]
  | external =>
    obtain ⟨hsupplied, hvalid⟩ := hvref rfl
    simp [configureVerdict, hrange, hsupplied, hvalid]

/-- A legal CONFIGURE with the transport ready loads the configuration (43 R202). -/
theorem acceptRequest_configure {range : InputRange} {ref : RefMode} {vv : Bool} {v : F64} {s : State}
    (hvref : ref = .external → vv = true ∧ vrefValid v = true) (hxport : s.xportStatus = 0#2) :
    acceptRequest (.configure (rangeIndex range) ref vv v) s =
      s.loadConfiguration (rangeIndex range) range ref v := by
  simp only [acceptRequest, configureAccepted, configureVerdict_legal hvref, transportVerdict_none.mpr hxport]

/-! ### Two exchanges under PIPE -/

theorem core_run_succ {n : Nat} {s t : State} (hstep : step s = .next t) :
    Host.Core.run Sys2Proof.core (n + 1) s = Host.Core.run Sys2Proof.core n t := by
  have hcore : Sys2Proof.core.step s = .next t := hstep
  simp only [Host.Core.run, hcore]

theorem run_three {a b c d : State} (hab : step a = .next b) (hbc : step b = .next c) (hcd : step c = .next d) :
    Host.Core.run Sys2Proof.core 3 a = .next d := by
  rw [core_run_succ hab, core_run_succ hbc, core_run_succ hcd]
  rfl

/-- The response of an exchange carries the result of the frame before it (60 R247). -/
theorem PipePremise.response_second {content : Nat → Byte → BitVec 16} {latched result : Nat → BitVec 16}
    {tx rx tx' rx' : Frame} (h : PipePremise content latched result [(tx, rx), (tx', rx')]) :
    codecDecode rx' = result 0 :=
  h.pipelined 0 tx' rx' rfl

/-- After a READ_HWORD the next response carries the register's content (60 R247). -/
theorem PipePremise.read_back {content : Nat → Byte → BitVec 16} {latched result : Nat → BitVec 16}
    {a : Byte} {d : BitVec 16} {rx tx' rx' : Frame}
    (h : PipePremise content latched result [(codecEncode 0xC8#8 a d, rx), (tx', rx')]) :
    codecDecode rx' = content 0 a :=
  h.response_second.trans (h.read_result 0 _ _ rfl rfl)

/-- After a NOP the next response carries the latched value (60 R247, 70 R274). -/
theorem PipePremise.sample {content : Nat → Byte → BitVec 16} {latched result : Nat → BitVec 16}
    {a : Byte} {d : BitVec 16} {rx tx' rx' : Frame}
    (h : PipePremise content latched result [(codecEncode 0x00#8 a d, rx), (tx', rx')]) :
    codecDecode rx' = latched 0 :=
  h.response_second.trans (h.nop_result 0 _ _ rfl rfl)

/-- From the READ_HWORD in progress: its return, the NOP, and the NOP's return with the read-back (41 R135, R136). -/
theorem run_readBack {s : State} {f rx rx' : Frame} {rest : List Turn} (hfsm : s.fsm = .cfgReadReq)
    (htx : s.tx = some f) (hop : s.hostOp = none)
    (hagenda : s.agenda = .transport rx :: .block :: .transport rx' :: rest) :
    ∃ t, Host.Core.run Sys2Proof.core 3 s = .next t ∧ t.fsm = .cfgSettle2 ∧ t.gotPresent = true ∧
      t.got = codecDecode rx' ∧ t.agenda = rest := by
  have hreturn := step_transportReturns (turn_of_agenda hagenda) htx (completeExchange_cfgReadReq hfsm)
  rw [beginStep_of_agenda hagenda] at hreturn
  exact ⟨_, run_three hreturn (step_sequencerSends rfl rfl (sequencerAction_nop (.inl rfl) rfl) hop)
    (step_transportReturns rfl rfl (completeExchange_cfgNop rfl)), rfl, rfl, rfl, rfl⟩

/-- From the flush NOP in progress: its return, the READ_RAW accepted, and its answer (41 R139, 43 R207). -/
theorem run_firstSample {s : State} {f rx rx' : Frame} {rest : List Turn} {ws : List PortWord}
    (hfsm : s.fsm = .cfgFlush) (htx : s.tx = some f)
    (hagenda : s.agenda = .transport rx :: .block :: .transport rx' :: rest)
    (hport : s.requests = encodePort .readRaw :: ws) (hxport : s.xportStatus = 0#2) :
    ∃ t, Host.Core.run Sys2Proof.core 3 s = .next t ∧ t.fsm = .ready ∧ t.requests = ws ∧
      t.rspValid = true ∧ t.rspStatus = .ok ∧ t.rspValue = codecDecode rx' ∧ t.agenda = rest := by
  have hreturn := step_transportReturns (turn_of_agenda hagenda) htx (completeExchange_cfgFlush hfsm)
  rw [beginStep_of_agenda hagenda] at hreturn
  exact ⟨_, run_three hreturn (step_readRaw rfl rfl rfl hport hxport) (step_transport_raw rfl),
    rfl, rfl, rfl, rfl, rfl, rfl⟩

/-- Settles O33: under the invariant the frame out is the READ_HWORD of 0x14, or the flush NOP. -/
theorem pipeMakesGotTheRegisterContent : Obligations.PipeMakesGotTheRegisterContent := by
  intro s f rx rx' rest content latched result h htx hagenda hpipe
  have hnamed := h.frame_named f htx
  refine ⟨fun hfsm => ?_, fun ws hfsm hport hxport => ?_⟩
  · simp only [frameNamed, hfsm] at hnamed
    obtain ⟨hop, rfl⟩ := hnamed
    rw [← hpipe.read_back]
    exact run_readBack hfsm htx hop hagenda
  · simp only [frameNamed, hfsm] at hnamed
    obtain ⟨-, rfl⟩ := hnamed
    rw [← hpipe.sample]
    exact run_firstSample hfsm htx hagenda hport hxport

end Sys2Proof.Machine
end

section
/-! PROOFS. The runs of a CONFIGURE closed with a transport that keeps a register 0x14 (60 R249): one iteration of
41_config_sequencer R142, the iterations that read another value back, and the two ways the last one ends. -/

namespace Sys2Proof.Machine

/-! ### The steps of the closed run -/

/-- The state in which the turn of a closed step begins. -/
def State.quiet (s : State) : State := { s with rspValid := false, agenda := [] }

theorem closedRun_succ {n : Nat} {r r' : Run} (h : closedStep r = some r') :
    closedRun (n + 1) r = closedRun n r' := by
  rw [closedRun, h]

/-- With no exchange in progress the turn is the settle signal or the block's. -/
theorem closedStep_free {s t : State} {d : TestTransport} {log : List (Frame × Frame)} (htx : s.tx = none)
    (hmove : turnMove (if fsmSettling s.fsm then .settle Config.tSettle else .block) s.quiet = t) :
    closedStep ⟨s, d, log⟩ = some ⟨t, d, log⟩ := by
  unfold closedStep
  split
  next f hsome => exact absurd (htx.symm.trans hsome) nofun
  next =>
    rw [step_eq, ← hmove]
    rfl

theorem closedStep_block {s : State} {d : TestTransport} {log : List (Frame × Frame)} (htx : s.tx = none)
    (hsettling : fsmSettling s.fsm = false) : closedStep ⟨s, d, log⟩ = some ⟨blockMove s.quiet, d, log⟩ :=
  closedStep_free htx (by rw [hsettling]; rfl)

theorem closedStep_settle {s : State} {d : TestTransport} {log : List (Frame × Frame)} (htx : s.tx = none)
    (hsettling : fsmSettling s.fsm = true) :
    closedStep ⟨s, d, log⟩ = some ⟨settleSignal Config.tSettle Config.tSettle s.quiet, d, log⟩ :=
  closedStep_free htx (by rw [hsettling]; rfl)

/-- The transport answers the frame out, and the exchange is logged. -/
theorem closedStep_return {s : State} {d : TestTransport} {log : List (Frame × Frame)} {f : Frame}
    (htx : s.tx = some f) :
    closedStep ⟨s, d, log⟩ =
      some ⟨completeExchange d.respond s.quiet, d.after s.attempt f, log ++ [(f, d.respond)]⟩ := by
  have hstep : step { s with agenda := [.transport d.respond] } = .next (completeExchange d.respond s.quiet) :=
    step_transport rfl htx
  simp only [closedStep, htx] at hstep ⊢
  rw [hstep]
  rfl

/-! ### The states of an iteration (41 R142) -/

/-- A whole exchange of the sequencer: the frame that its action in `s` sends, and the return. -/
theorem closedRun_exchange {n : Nat} {s begun : State} {d : TestTransport} {log : List (Frame × Frame)} {f : Frame}
    (hbusy : fsmBusy s.fsm = true) (hsettling : fsmSettling s.fsm = false) (htx : s.tx = none)
    (haction : sequencerAction s.quiet = begun.startExchange f none) :
    closedRun (n + 2) ⟨s, d, log⟩ =
      closedRun n ⟨completeExchange d.respond (begun.startExchange f none).quiet, d.after begun.attempt f,
        log ++ [(f, d.respond)]⟩ := by
  have hsent : blockMove s.quiet = begun.startExchange f none := (blockMove_busy (s := s.quiet) hbusy).trans haction
  rw [closedRun_succ (closedStep_block htx hsettling), hsent, closedRun_succ (closedStep_return rfl)]
  rfl

/-- The state `s` of a CONFIGURE moved on to `f` in iteration `n`, between exchanges. -/
def State.sequenced (s : State) (f : FsmState) (n : Nat) : State :=
  { s with fsm := f, attempt := n, tx := none, hostOp := none, rspValid := false, agenda := [] }

/-- The state `s` of a CONFIGURE in CFG_CHECK of iteration `n`, with the read-back `g`. -/
def State.checking (s : State) (n : Nat) (g : BitVec 16) : State :=
  { s.sequenced .cfgCheck n with got := g, gotPresent := true }

theorem closedRun_cfgWrite {n : Nat} {s : State} {d : TestTransport} {log : List (Frame × Frame)}
    (hfsm : s.fsm = .cfgWrite) (htx : s.tx = none) :
    closedRun (n + 2) ⟨s, d, log⟩ =
      closedRun n ⟨s.sequenced .cfgSettle1 (s.attempt + 1), d.after (s.attempt + 1) (codecEncode 0xD0#8 0x14#8 s.cmd),
        log ++ [(codecEncode 0xD0#8 0x14#8 s.cmd, d.respond)]⟩ := by
  rw [closedRun_exchange (hfsm ▸ rfl) (hfsm ▸ rfl) htx (sequencerAction_cfgWrite hfsm htx)]
  exact congrArg (fun s' => closedRun n ⟨s', _, _⟩) (completeExchange_cfgWrite hfsm)

theorem closedRun_cfgSettle1 {n : Nat} {s : State} {d : TestTransport} {log : List (Frame × Frame)} (a : Nat) :
    closedRun (n + 1) ⟨s.sequenced .cfgSettle1 a, d, log⟩ = closedRun n ⟨s.sequenced .cfgReadReq a, d, log⟩ := by
  rw [closedRun_succ (closedStep_settle rfl rfl), settleSignal_cfgSettle1 rfl rfl le_rfl]
  rfl

theorem closedRun_cfgReadReq {n : Nat} {s : State} {d : TestTransport} {log : List (Frame × Frame)} (a : Nat) :
    closedRun (n + 2) ⟨s.sequenced .cfgReadReq a, d, log⟩ =
      closedRun n ⟨s.sequenced .cfgNop a, d.after a (codecEncode 0xC8#8 0x14#8 0x0000#16),
        log ++ [(codecEncode 0xC8#8 0x14#8 0x0000#16, d.respond)]⟩ := by
  rw [closedRun_exchange rfl rfl rfl (sequencerAction_cfgReadReq rfl rfl)]
  rfl

/-- CFG_NOP and the settle wait after it, to CFG_CHECK with the read-back. -/
theorem closedRun_cfgNop {n : Nat} {s : State} {d : TestTransport} {log : List (Frame × Frame)} (a : Nat) :
    closedRun (n + 3) ⟨s.sequenced .cfgNop a, d, log⟩ =
      closedRun n ⟨s.checking a (codecDecode d.respond), d.after a (codecEncode 0x00#8 0x00#8 0x0000#16),
        log ++ [(codecEncode 0x00#8 0x00#8 0x0000#16, d.respond)]⟩ := by
  rw [closedRun_exchange (n := n + 1) rfl rfl rfl (sequencerAction_nop (.inl rfl) rfl),
    completeExchange_cfgNop rfl, closedRun_succ (closedStep_settle rfl rfl), settleSignal_cfgSettle2 rfl rfl le_rfl]
  rfl

/-- The comparison of CFG_CHECK. -/
theorem closedRun_cfgCheck {n a : Nat} {g : BitVec 16} {s : State} {d : TestTransport} {log : List (Frame × Frame)} :
    closedRun (n + 1) ⟨s.checking a g, d, log⟩ =
      closedRun n ⟨cfgCheckAction Config.maxAttempts (s.checking a g), d, log⟩ := by
  rw [closedRun_succ (closedStep_block rfl rfl)]
  rfl

/-! ### CONVERGE and NEVER as one kind of transport (60 R249) -/

/-- CONVERGE and NEVER as `transport written latch`, by the content of register 0x14 and the result held ready: the
content read back in iteration `n` is `reading n written` (60 R249). -/
structure RangeTransport (transport : BitVec 16 → BitVec 16 → TestTransport)
    (reading : Nat → BitVec 16 → BitVec 16) : Prop where
  respond : ∀ written latch, (transport written latch).respond = valueFrame latch
  after_write : ∀ n written latch d, ∃ latch',
    (transport written latch).after n (codecEncode 0xD0#8 0x14#8 d) = transport d latch'
  after_readHword : ∀ n written latch,
    (transport written latch).after n (codecEncode 0xC8#8 0x14#8 0x0000#16) = transport written (reading n written)
  after_nop : ∀ n written latch, ∃ latch',
    (transport written latch).after n (codecEncode 0x00#8 0x00#8 0x0000#16) = transport written latch'

theorem rangeTransport_converge (k : Nat) (mask sample other : BitVec 16) :
    RangeTransport (.converge k mask sample other) fun n written => if k ≤ n then written else written ^^^ mask where
  respond _ _ := rfl
  after_write n written latch d := ⟨other, converge_after_write n k mask sample other written latch d⟩
  after_readHword n written latch := converge_after_readHword n k mask sample other written latch 0x0000#16
  after_nop n written latch := ⟨sample, converge_after_nop n k mask sample other written latch 0x0000#16 0x00#8⟩

theorem rangeTransport_never (mask sample other : BitVec 16) :
    RangeTransport (.never mask sample other) fun _ written => written ^^^ mask where
  respond _ _ := rfl
  after_write n written latch d := ⟨other, never_after_write n mask sample other written latch d⟩
  after_readHword n written latch := never_after_readHword n mask sample other written latch 0x0000#16
  after_nop n written latch := ⟨sample, never_after_nop n mask sample other written latch 0x0000#16 0x00#8⟩

/-! ### Iterations -/

section
variable {transport : BitVec 16 → BitVec 16 → TestTransport} {reading : Nat → BitVec 16 → BitVec 16}

/-- An iteration, to its comparison: three frames, and in `got` what the transport reads back. -/
theorem closedRun_iteration (htransport : RangeTransport transport reading) {s : State} (hfsm : s.fsm = .cfgWrite)
    (htx : s.tx = none) (written latch : BitVec 16) (log : List (Frame × Frame)) :
    ∃ latch' log', log'.map Prod.fst = log.map Prod.fst ++ iterationFrames s.cmd ∧
      ∀ n, closedRun (n + 8) ⟨s, transport written latch, log⟩ =
        closedRun n ⟨s.checking (s.attempt + 1) (reading (s.attempt + 1) s.cmd), transport s.cmd latch', log'⟩ := by
  obtain ⟨latch₁, hwrite⟩ := htransport.after_write (s.attempt + 1) written latch s.cmd
  have hread := htransport.after_readHword (s.attempt + 1) s.cmd latch₁
  obtain ⟨latch₂, hnop⟩ := htransport.after_nop (s.attempt + 1) s.cmd (reading (s.attempt + 1) s.cmd)
  refine ⟨latch₂, log ++
    [(codecEncode 0xD0#8 0x14#8 s.cmd, valueFrame latch), (codecEncode 0xC8#8 0x14#8 0x0000#16, valueFrame latch₁),
      (codecEncode 0x00#8 0x00#8 0x0000#16, valueFrame (reading (s.attempt + 1) s.cmd))], ?_, fun n => ?_⟩
  · rw [List.map_append]
    rfl
  · rw [closedRun_cfgWrite hfsm htx, hwrite, closedRun_cfgSettle1, closedRun_cfgReadReq, hread, closedRun_cfgNop, hnop]
    simp only [htransport.respond, codecDecode_valueFrame, List.append_assoc, List.cons_append, List.nil_append]

/-- `m` iterations that read another value back, each with attempts left, and iteration `last` after them, to its
comparison. -/
theorem closedRun_retries (htransport : RangeTransport transport reading) {last : Nat} (m : Nat) {s : State}
    (hfsm : s.fsm = .cfgWrite) (htx : s.tx = none) (hlast : s.attempt + m + 1 = last)
    (hleft : last ≤ Config.maxAttempts) (hmismatch : ∀ n < last, reading n s.cmd ≠ s.cmd)
    (written latch : BitVec 16) (log : List (Frame × Frame)) :
    ∃ latch' log', log'.map Prod.fst = log.map Prod.fst ++ (List.replicate (m + 1) (iterationFrames s.cmd)).flatten ∧
      ∀ n, closedRun (n + 9 * m + 8) ⟨s, transport written latch, log⟩ =
        closedRun n ⟨s.checking last (reading last s.cmd), transport s.cmd latch', log'⟩ := by
  induction m generalizing s written latch log with
  | zero =>
    obtain ⟨latch₁, log₁, hlog₁, hiteration⟩ := closedRun_iteration htransport hfsm htx written latch log
    obtain rfl : s.attempt + 1 = last := hlast
    exact ⟨latch₁, log₁, by simpa using hlog₁, hiteration⟩
  | succ m ih =>
    obtain ⟨latch₁, log₁, hlog₁, hiteration⟩ := closedRun_iteration htransport hfsm htx written latch log
    have hretry : cfgCheckAction Config.maxAttempts (s.checking (s.attempt + 1) (reading (s.attempt + 1) s.cmd)) =
        { s.checking (s.attempt + 1) (reading (s.attempt + 1) s.cmd) with fsm := .cfgWrite } :=
      cfgCheckAction_retry (hmismatch (s.attempt + 1) (by omega)) (show s.attempt + 1 < Config.maxAttempts by omega)
    obtain ⟨latch₂, log₂, hlog₂, hretries⟩ :=
      ih (s := { s.checking (s.attempt + 1) (reading (s.attempt + 1) s.cmd) with fsm := .cfgWrite }) rfl rfl
        (show s.attempt + 1 + m + 1 = last by omega) hmismatch s.cmd latch₁ log₁
    refine ⟨latch₂, log₂, ?_, fun n => ?_⟩
    · rw [hlog₂, hlog₁, List.append_assoc, List.replicate_succ (n := m + 1), List.flatten_cons]
      rfl
    · rw [show n + 9 * (m + 1) + 8 = n + 9 * m + 8 + 1 + 8 by omega, hiteration, closedRun_cfgCheck, hretry, hretries]
      rfl

end

/-! ### A whole CONFIGURE -/

/-- A legal CONFIGURE presented to a free block starts the sequencer (43 R202). -/
theorem closedRun_configure {n : Nat} {s : State} {d : TestTransport} {log : List (Frame × Frame)}
    {range : InputRange} {ref : RefMode} {vv : Bool} {v : F64} (hfree : s.occupied = false)
    (hxport : s.xportStatus = 0#2) (hvref : ref = .external → vv = true ∧ vrefValid v = true)
    (hport : s.requests = [encodePort (.configure (rangeIndex range) ref vv v)]) :
    closedRun (n + 1) ⟨s, d, log⟩ =
      closedRun n ⟨{ s.quiet with requests := [] }.loadConfiguration (rangeIndex range) range ref v, d, log⟩ := by
  obtain ⟨hidle, -, htx⟩ := occupied_false.mp hfree
  have hsettling : fsmSettling s.fsm = false := by
    rcases fsmBusy_false.mp hidle with hfsm | hfsm <;> rw [hfsm] <;> rfl
  have hload : blockMove s.quiet =
      { s.quiet with requests := [] }.loadConfiguration (rangeIndex range) range ref v :=
    (blockMove_accept (s := s.quiet) hfree hport rfl).trans (acceptRequest_configure hvref hxport)
  rw [closedRun_succ (closedStep_block htx hsettling), hload]

/-- The comparison that matches, and the flush (41 R138, R139). -/
theorem closedRun_flush {n a : Nat} {s : State} {d : TestTransport} {log : List (Frame × Frame)} :
    closedRun (n + 3) ⟨s.checking a s.cmd, d, log⟩ =
      closedRun n ⟨{ s.checking a s.cmd with fsm := .ready }.respond .ok 0#2 (attemptValue a) 0#64,
        d.after a (codecEncode 0x00#8 0x00#8 0x0000#16),
        log ++ [(codecEncode 0x00#8 0x00#8 0x0000#16, d.respond)]⟩ := by
  rw [closedRun_cfgCheck, cfgCheckAction_match rfl, closedRun_exchange rfl rfl rfl (sequencerAction_nop (.inr rfl) rfl)]
  rfl

/-- The last comparison that does not match (41 R140). -/
theorem closedRun_timeout {n a : Nat} {g : BitVec 16} {s : State} {d : TestTransport} {log : List (Frame × Frame)}
    (hmismatch : g ≠ s.cmd) (hlast : Config.maxAttempts ≤ a) :
    closedRun (n + 1) ⟨s.checking a g, d, log⟩ =
      closedRun n ⟨(s.checking a g).raise .configurationTimeout 0#2, d, log⟩ := by
  have htimeout : cfgCheckAction Config.maxAttempts (s.checking a g) = _ := cfgCheckAction_timeout hmismatch hlast
  rw [closedRun_cfgCheck, htimeout]

/-- Settles O59: the CONFIGURE is loaded, `k - 1` iterations read another value back, iteration `k` reads the written
value back, and the flush ends the request. -/
theorem convergingConfigureEndsReady : Obligations.ConvergingConfigureEndsReady := by
  intro k mask sample other written latch range ref vv v s hk hbound hmask hfree hxport hvref hport
  obtain ⟨m, rfl⟩ := Nat.exists_eq_add_of_le' hk
  have hmismatch : ∀ n < m + 1, (if m + 1 ≤ n then commandWord range ref else commandWord range ref ^^^ mask) ≠
      commandWord range ref := by
    intro n hn
    rw [if_neg (by omega)]
    simpa using hmask
  obtain ⟨-, -, htx⟩ := occupied_false.mp hfree
  obtain ⟨latch', log', hlog, hretries⟩ :=
    closedRun_retries (rangeTransport_converge (m + 1) mask sample other) m
      (s := { s.quiet with requests := [] }.loadConfiguration (rangeIndex range) range ref v) rfl htx
      (show 0 + m + 1 = m + 1 by omega) hbound hmismatch written latch []
  rw [if_pos le_rfl] at hretries
  have hrun := ((closedRun_configure hfree hxport hvref hport).trans (hretries 3)).trans (closedRun_flush (n := 0))
  rw [show 9 * (m + 1) + 3 = 3 + 9 * m + 8 + 1 by omega]
  refine ⟨_, hrun, rfl, rfl, rfl, rfl, rfl, rfl, rfl, rfl, rfl, rfl, rfl, rfl, ?_⟩
  rw [List.map_append, hlog]
  rfl

/-- Settles O60: the CONFIGURE is loaded, every iteration reads another value back, and the comparison of iteration
MAX_ATTEMPTS times out. -/
theorem nonConvergingConfigureTimesOut : Obligations.NonConvergingConfigureTimesOut := by
  intro mask sample other written latch range ref vv v s hmask hfree hxport hvref hport
  have hmismatch : commandWord range ref ^^^ mask ≠ commandWord range ref := by simpa using hmask
  obtain ⟨-, -, htx⟩ := occupied_false.mp hfree
  obtain ⟨latch', log', hlog, hretries⟩ :=
    closedRun_retries (rangeTransport_never mask sample other) Config.retries
      (s := { s.quiet with requests := [] }.loadConfiguration (rangeIndex range) range ref v) rfl htx
      (show 0 + Config.retries + 1 = Config.maxAttempts by rw [Nat.zero_add]; rfl) le_rfl (fun _ _ => hmismatch)
      written latch []
  have hrun := ((closedRun_configure hfree hxport hvref hport).trans (hretries 1)).trans
    (closedRun_timeout (n := 0) hmismatch le_rfl)
  rw [show 9 * Config.maxAttempts + 1 = 1 + 9 * Config.retries + 8 + 1 by rw [Config.maxAttempts]; omega]
  exact ⟨_, hrun, rfl, rfl, rfl, rfl, rfl, rfl, rfl, rfl, hlog⟩

end Sys2Proof.Machine
end

section
/-! PROOFS. The engine's check of 42 R177: what it answers, and that it is the only source of cause 2 and never fires
under the invariant. -/

namespace Sys2Proof.Machine

/-! ### The check's answer -/

/-- Without a valid configuration, or with a range the port does not name, the engine has nothing to run on. -/
theorem engineRange?_none {s : State}
    (hinvalid : s.cfgValid = false ∨ (s.cfgValid = true ∧ s.cfgPresent = true ∧ 8 < s.cfgRange.toNat)) :
    engineRange? s = none := by
  refine Option.eq_none_iff_forall_ne_some.mpr fun r hsome => ?_
  obtain ⟨hvalid, -, hrange⟩ := engineRange?_some.mp hsome
  rcases hinvalid with hnot | ⟨-, -, hlarge⟩
  · exact Bool.noConfusion (hnot.symm.trans hvalid)
  · rw [← inputRange?_none, inputRange?_some.mpr hrange] at hlarge
    cases hlarge

/-- A scaled read that completes with nothing for the engine to run on ends with cause 2 and no voltage. -/
theorem completeExchange_engineRefused {s : State} {rx : Frame} (hidle : fsmBusy s.fsm = false)
    (hop : s.hostOp = some .scaled) (hengine : engineRange? s = none) :
    completeExchange rx s = rejected .invalidConfiguration 2#2 { s with tx := none, hostOp := none } := by
  have hscaled : completeScaled (codecDecode rx) s = s.raise .invalidConfiguration 2#2 := by
    rw [completeScaled, hengine]
  rw [completeExchange_idle hidle, completeHostOp, hop, hscaled, raise_eq_respond .invalidConfiguration 2#2 s nofun]
  rfl

/-! ### Where cause 2 comes from -/

/-- The state shows a request that has just ended with cause 2. -/
def AnswersCauseTwo (s : State) : Prop := s.rspValid = true ∧ s.rspCause = 2#2

/-- An exception answers its own cause (60 R236). -/
@[simp] theorem answersCauseTwo_raise {st : Status} {c : BitVec 2} {s : State} :
    AnswersCauseTwo (s.raise st c) ↔ c = 2#2 := by
  simp [AnswersCauseTwo]

theorem not_answersCauseTwo_of_invalid {s : State} (hinvalid : s.rspValid = false) : ¬ AnswersCauseTwo s :=
  fun ⟨hvalid, _⟩ => Bool.noConfusion (hinvalid.symm.trans hvalid)

/-- The field checks of CONFIGURE give the causes 0, 1 and 3 only (43 R201). -/
theorem configureVerdict_error {range : BitVec 4} {ref : RefMode} {vv : Bool} {v : F64} {c : BitVec 2}
    (h : configureVerdict range ref vv v = .error c) : c ≠ 2#2 := by
  unfold configureVerdict at h
  split at h
  · cases h
    decide
  · cases ref with
    | internal => cases h
    | external =>
      dsimp only at h
      split_ifs at h
      · cases h
        decide
      · cases h
        decide

theorem configureAccepted_not_causeTwo {range : BitVec 4} {ref : RefMode} {vv : Bool} {v : F64} {s : State}
    (hinvalid : s.rspValid = false) : ¬ AnswersCauseTwo (configureAccepted range ref vv v s) := by
  unfold configureAccepted
  cases hverdict : configureVerdict range ref vv v with
  | error c => exact mt answersCauseTwo_raise.mp (configureVerdict_error hverdict)
  | ok r =>
    cases transportVerdict s.xportStatus with
    | some st => simp
    | none => exact not_answersCauseTwo_of_invalid hinvalid

theorem sendChecked_not_causeTwo {o a : Byte} {d : BitVec 16} {op : HostOp} {s : State}
    (hinvalid : s.rspValid = false) : ¬ AnswersCauseTwo (sendChecked o a d op s) := by
  rcases sendChecked_cases o a d op s with ⟨st, -, heq⟩ | ⟨-, heq⟩ <;> rw [heq]
  · simp
  · exact not_answersCauseTwo_of_invalid hinvalid

theorem sampleAccepted_not_causeTwo {op : HostOp} {s : State} (hinvalid : s.rspValid = false) :
    ¬ AnswersCauseTwo (sampleAccepted op s) := by
  rcases sampleAccepted_cases op s with ⟨-, heq⟩ | ⟨-, heq⟩ <;> rw [heq]
  · simp
  · exact sendChecked_not_causeTwo hinvalid

/-- No request is rejected with cause 2 on acceptance (60 R234). -/
theorem acceptRequest_not_causeTwo {i : Instr} {s : State} (hinvalid : s.rspValid = false) :
    ¬ AnswersCauseTwo (acceptRequest i s) := by
  cases i with
  | configure => exact configureAccepted_not_causeTwo hinvalid
  | readRaw | readScaled => exact sampleAccepted_not_causeTwo hinvalid
  | reserved100 | reserved101 | reserved110 | reserved111 => simp [acceptRequest]
  | nop | read | readHword | write | writeMsbyte | writeLsbyte | setHword | clearHword | unnamedOpcode | sendRaw =>
    exact sendChecked_not_causeTwo hinvalid

/-- The block's turn with any word at the port of a free block accepts the request it decodes to (30 R80). -/
theorem step_accept_word {s : State} {w : PortWord} {ws : List PortWord} (hturn : s.turn = .block)
    (hfree : s.occupied = false) (hport : s.requests = w :: ws) :
    step s = .next (acceptRequest (decodePort w) { s.beginStep with requests := ws }) := by
  have hfetch : s.beginStep.fetch = some (w, { s.beginStep with requests := ws }) :=
    fetch_some.mpr ⟨hfree, ws, hport, rfl⟩
  rw [step_eq, hturn, turnMove, blockMove, hfetch]

/-- Cause 2 is answered by the engine's check alone: a scaled read has completed with nothing to run on. -/
theorem engineRefused_of_causeTwo {s t : State} (hstep : step s = .next t) (hcause : AnswersCauseTwo t) :
    (∃ f, s.tx = some f) ∧ fsmBusy s.fsm = false ∧ s.hostOp = some .scaled ∧ engineRange? s = none := by
  cases turnEffect_of_step hstep with
  | rejected hturn hfree hport =>
    rw [step_accept_word hturn hfree hport, Host.Outcome.next.injEq] at hstep
    exact absurd (hstep ▸ hcause) (acceptRequest_not_causeTwo rfl)
  | @engineRefused _ f _ htx hidle hop hengine => exact ⟨⟨f, htx⟩, hidle, hop, hengine⟩
  | timedOut | flushed | rawDone | scaledDone => exact absurd hcause (by simp [AnswersCauseTwo])
  | _ => exact absurd hcause (not_answersCauseTwo_of_invalid rfl)

/-- A scaled read in progress runs in READY, on a legal configuration, so the engine has its range (10 R38, R39). -/
theorem Inv.engineRange?_ne_none {s : State} {f : Frame} (h : Inv s) (htx : s.tx = some f)
    (hidle : fsmBusy s.fsm = false) (hop : s.hostOp = some .scaled) : engineRange? s ≠ none := by
  have hnamed := h.frame_named f htx
  rcases fsmBusy_false.mp hidle with hfsm | hready
  · simp [frameNamed, hfsm, hop] at hnamed
  · have hvalid := h.ready_valid hready
    obtain ⟨hpresent, ⟨r, hrange, -⟩, -⟩ := h.valid_legal hvalid
    rw [engineRange?_some.mpr ⟨hvalid, hpresent, inputRange?_some.mp hrange⟩]
    nofun

/-- Settles O46: the check's answer is the completion's, and only the check answers cause 2, which the invariant keeps
from firing. -/
theorem engineCheckIsCauseTwoAndUnreachable : Obligations.EngineCheckIsCauseTwoAndUnreachable := by
  refine ⟨fun s rx rest f hfsm htx hop hagenda hinvalid => ?_, fun s t h hstep hvalid _ hcause => ?_⟩
  · have hrefused := completeExchange_engineRefused (s := s.beginStep) (rx := rx) (fsmBusy_false.mpr hfsm) hop
      (engineRange?_none hinvalid)
    rw [step_transport (turn_of_agenda hagenda) htx, hrefused, beginStep_of_agenda hagenda, rejected, rejected]
  · obtain ⟨⟨f, htx⟩, hidle, hop, hengine⟩ := engineRefused_of_causeTwo hstep ⟨hvalid, hcause⟩
    exact h.engineRange?_ne_none htx hidle hop hengine

end Sys2Proof.Machine
end

section
/-! PROOFS. The arithmetic of 42_scaling_engine on bit patterns: rounding keeps order and commutes with doubling, and a
product or quotient of numbers with bounded exponents is a number with bounded exponents. -/

namespace Sys2Proof.Machine

/-! ### Rounding keeps order -/

theorem divRoundEven_mono {num num' : Nat} (den : Nat) (h : num ≤ num') :
    divRoundEven num den ≤ divRoundEven num' den := by
  have hquot : num / den ≤ num' / den := Nat.div_le_div_right h
  have hnum := Nat.div_add_mod num den
  have hnum' := Nat.div_add_mod num' den
  rcases divRoundEven_cases num den with ⟨hround, -, -⟩ | ⟨hround, hhalf, htie⟩ <;>
    rcases divRoundEven_cases num' den with ⟨hround', hhalf', htie'⟩ | ⟨hround', -, -⟩ <;>
    rw [hround, hround']
  · exact hquot
  · exact hquot.trans (Nat.le_succ _)
  · rcases hquot.eq_or_lt with heq | hlt
    · rw [heq] at hnum htie
      omega
    · exact hlt
  · exact Nat.succ_le_succ hquot

theorem ulpShift_mono {num num' : Nat} (den : Nat) (h : num ≤ num') : ulpShift num den ≤ ulpShift num' den := by
  rw [ulpShift, ulpShift, Nat.log2_eq_log_two, Nat.log2_eq_log_two]
  exact Nat.sub_le_sub_right (Nat.log_mono_right (Nat.div_le_div_right h)) 52

/-- Rounding never reverses the order of two exact values. -/
theorem roundLow_mono (den : Nat) : Monotone fun num => roundLow num den := by
  intro num num' h
  refine min_le_min le_rfl ?_
  rcases (ulpShift_mono den h).eq_or_lt with hsame | hless
  · rw [← hsame]
    exact Nat.add_le_add_left (divRoundEven_mono _ h) _
  · obtain ⟨hbelow, -⟩ := significandFits_ulpShift num den
    obtain ⟨-, hnormal⟩ := significandFits_ulpShift num' den
    have hupper : divRoundEven num (den * 2 ^ ulpShift num den) ≤ 2 ^ 53 := by
      rcases divRoundEven_cases num (den * 2 ^ ulpShift num den) with ⟨hround, -⟩ | ⟨hround, -⟩ <;> omega
    have hlower : 2 ^ 52 ≤ divRoundEven num' (den * 2 ^ ulpShift num' den) := by
      rcases divRoundEven_cases num' (den * 2 ^ ulpShift num' den) with ⟨hround, -⟩ | ⟨hround, -⟩ <;> omega
    omega

@[simp] theorem roundLow_zero (den : Nat) : roundLow 0 den = 0 := by
  simp [roundLow, ulpShift, divRoundEven]

/-! ### Rounding commutes with doubling -/

theorem divRoundEven_double (num den : Nat) : divRoundEven (2 * num) (2 * den) = divRoundEven num den := by
  unfold divRoundEven
  rw [Nat.mul_div_mul_left _ _ Nat.two_pos, Nat.mul_mod_mul_left]
  exact if_congr (by omega) rfl rfl

/-- The shift of a normal number grows by one when the number is doubled. -/
theorem ulpShift_double {num den : Nat} (hnormal : den * 2 ^ 52 ≤ num) (hden : 0 < den) :
    ulpShift (2 * num) den = ulpShift num den + 1 := by
  have hquot : 2 ^ 52 ≤ num / den := (Nat.le_div_iff_mul_le hden).2 (Nat.mul_comm _ _ ▸ hnormal)
  have hdouble : 2 * num / den / 2 = num / den := by
    rw [Nat.div_div_eq_div_mul, Nat.mul_comm den 2, Nat.mul_div_mul_left _ _ Nat.two_pos]
  have hlog : 52 ≤ (num / den).log2 := (Nat.le_log2 (by omega)).2 hquot
  unfold ulpShift
  rw [Nat.log2_def (2 * num / den), if_pos (by omega), hdouble]
  omega

/-- Doubling the exact value of a normal number adds one to the exponent field of its rounding, up to ∞. -/
theorem roundLow_double {num den : Nat} (hnormal : den * 2 ^ 52 ≤ num) (hden : 0 < den) :
    roundLow (2 * num) den = min f64InfLow (roundLow num den + 2 ^ 52) := by
  have hscale : den * 2 ^ (ulpShift num den + 1) = 2 * (den * 2 ^ ulpShift num den) := by
    rw [Nat.pow_succ']
    ring
  unfold roundLow
  rw [ulpShift_double hnormal hden, hscale, divRoundEven_double]
  omega

/-- Doubling a normal number adds one to its exponent field. -/
theorem lowUnits_double {low : Nat} (hnormal : 2 ^ 52 ≤ low) : lowUnits (low + 2 ^ 52) = 2 * lowUnits low := by
  obtain ⟨s, c, rfl, hc, hs⟩ := exists_significandFits low
  have hc' : 2 ^ 52 ≤ c := by omega
  have hshift : s * 2 ^ 52 + c + 2 ^ 52 = (s + 1) * 2 ^ 52 + c := by ring
  rw [hshift, lowUnits_shift_add hc.le (.inr hc'), lowUnits_shift_add hc.le (.inr hc'), Nat.pow_succ']
  ring

/-! ### Operations on finite numbers as operations on their lower 63 bits -/

/-- A finite number is a whole multiple of `2 ^ -unitExponent`. -/
def unitExponent : Nat := 1074

/-- The lower 63 bits of the product of two finite numbers. -/
def mulLow (a b : Nat) : Nat := roundLow (lowUnits a * lowUnits b) (2 ^ unitExponent)

/-- The lower 63 bits of the quotient of two finite numbers, the divisor not zero. -/
def divLow (a b : Nat) : Nat := roundLow (lowUnits a * 2 ^ unitExponent) (lowUnits b)

theorem f64Mul_pack {s t : Bool} {a b : Nat} (ha : a < f64InfLow) (hb : b < f64InfLow) :
    f64Mul (f64Pack s a) (f64Pack t b) = f64Pack (s ^^ t) (mulLow a b) := by
  simp only [f64Mul, f64Class_pack ha, f64Class_pack hb, f64Round, mulLow, unitExponent]

theorem f64Div_pack {s t : Bool} {a b : Nat} (ha : a < f64InfLow) (hb : b < f64InfLow) (hne : lowUnits b ≠ 0) :
    f64Div (f64Pack s a) (f64Pack t b) = f64Pack (s ^^ t) (divLow a b) := by
  simp only [f64Div, f64Class_pack ha, f64Class_pack hb, if_neg hne, f64Round, divLow, unitExponent]

/-- The sign bit of a packed number is its first addend, and is free of the lower 63 bits. -/
theorem f64Pack_true {low : Nat} (h : low < 2 ^ 63) : f64Pack true low = f64Pack false low ^^^ BitVec.twoPow 64 63 := by
  refine BitVec.eq_of_getLsbD_eq fun i hi => ?_
  rw [BitVec.getLsbD_xor, BitVec.getLsbD_twoPow, f64Pack, f64Pack, BitVec.getLsbD_ofNat, BitVec.getLsbD_ofNat,
    if_pos rfl, if_neg Bool.false_ne_true, Nat.zero_add]
  rcases (Nat.le_of_lt_succ hi).eq_or_lt with rfl | hlow
  · rw [Nat.testBit_two_pow_add_eq, Nat.testBit_lt_two_pow h]
    rfl
  · simp [Nat.testBit_two_pow_add_gt hlow, hlow.ne']

theorem f64Neg_pack {neg : Bool} {low : Nat} (h : low < f64InfLow) : f64Neg (f64Pack neg low) = f64Pack (!neg) low := by
  have hflip := f64Pack_true (h.trans (by decide : f64InfLow < 2 ^ 63))
  cases neg with
  | false => exact hflip.symm
  | true =>
    have hsign : 0x8000000000000000#64 = BitVec.twoPow 64 63 := by decide
    rw [hflip, f64Neg, hsign, BitVec.xor_assoc, BitVec.xor_self, BitVec.xor_zero, Bool.not_true]

/-- Every pattern is packed from its own bits, the sign bit among them. -/
theorem eq_pack_toNat (x : F64) : x = f64Pack false x.toNat := by
  simp [f64Pack]

@[simp] theorem lowUnits_zero : lowUnits 0 = 0 := rfl

@[simp] theorem mulLow_zero (b : Nat) : mulLow 0 b = 0 := by
  simp [mulLow]

theorem mulLow_mono (b : Nat) : Monotone (mulLow · b) :=
  fun _ _ h => roundLow_mono _ (Nat.mul_le_mul_right _ (lowUnits_strictMono.monotone h))

/-! ### Numbers with bounded exponents -/

/-- The lower 63 bits of a normal number whose magnitude lies between those of the biased exponents `e` and `f`, that is
between `2 ^ (e - 1023)` and `2 ^ (f - 1023)`. -/
structure ExponentWithin (e f low : Nat) : Prop where
  normal : 1 ≤ e
  lower : e * 2 ^ 52 ≤ low
  upper : low ≤ f * 2 ^ 52
  finite : f ≤ 2046

/-- The power of two of biased exponent `e`. -/
theorem lowUnits_exponent {e : Nat} (he : 1 ≤ e) : lowUnits (e * 2 ^ 52) = 2 ^ (e + 51) := by
  obtain ⟨s, rfl⟩ := Nat.exists_eq_add_of_le' he
  exact lowUnits_pow (by omega)

theorem significand_le_exponent {e : Nat} (he : 1 ≤ e) : 2 ^ 52 ≤ 2 ^ (e + 51) :=
  Nat.pow_le_pow_right Nat.two_pos (Nat.add_le_add_right he 51)

namespace ExponentWithin

variable {e f a : Nat}

theorem lt_inf (ha : ExponentWithin e f a) : a < f64InfLow := by
  obtain ⟨-, -, hupper, hfinite⟩ := ha
  unfold f64InfLow
  omega

theorem le (ha : ExponentWithin e f a) : e ≤ f := by
  obtain ⟨-, hlower, hupper, -⟩ := ha
  omega

theorem le_units (ha : ExponentWithin e f a) : 2 ^ (e + 51) ≤ lowUnits a :=
  lowUnits_exponent ha.normal ▸ lowUnits_strictMono.monotone ha.lower

theorem units_le (ha : ExponentWithin e f a) : lowUnits a ≤ 2 ^ (f + 51) :=
  lowUnits_exponent (ha.normal.trans ha.le) ▸ lowUnits_strictMono.monotone ha.upper

theorem units_pos (ha : ExponentWithin e f a) : 0 < lowUnits a := (Nat.two_pow_pos _).trans_le ha.le_units

theorem significand_le (ha : ExponentWithin e f a) : 2 ^ 52 ≤ a := by
  obtain ⟨hnormal, hlower, -, -⟩ := ha
  omega

theorem f64Normal_pack (ha : ExponentWithin e f a) (neg : Bool) : f64Normal (f64Pack neg a) :=
  ⟨neg, lowUnits a, f64Class_pack ha.lt_inf, (significand_le_exponent ha.normal).trans ha.le_units⟩

theorem f64Pack_ne_zero (ha : ExponentWithin e f a) (neg neg' : Bool) : f64Pack neg a ≠ f64Pack neg' 0 := by
  intro h
  have hclass := congrArg f64Class h
  rw [f64Class_pack ha.lt_inf, f64Class_pack (by decide), F64Class.fin.injEq] at hclass
  obtain ⟨-, hunits⟩ := hclass
  exact ha.units_pos.ne' hunits

/-- Doubling moves the bounds by one. -/
theorem double (ha : ExponentWithin e f a) (hf : f + 1 ≤ 2046) : ExponentWithin (e + 1) (f + 1) (a + 2 ^ 52) := by
  refine ⟨Nat.le_add_left _ _, ?_, ?_, hf⟩ <;> rw [Nat.succ_mul]
  · exact Nat.add_le_add_right ha.lower _
  · exact Nat.add_le_add_right ha.upper _

end ExponentWithin

/-- An exact value between two powers of two is rounded to a number between them. -/
theorem exponentWithin_roundLow {e f num den : Nat} (hden : 0 < den) (he : 1 ≤ e) (hf : f ≤ 2046) (hef : e ≤ f)
    (hlower : den * 2 ^ (e + 51) ≤ num) (hupper : num ≤ den * 2 ^ (f + 51)) :
    ExponentWithin e f (roundLow num den) := by
  have hpower : ∀ g, 1 ≤ g → g ≤ 2046 → roundLow (den * 2 ^ (g + 51)) den = g * 2 ^ 52 := fun g hg hg' => by
    rw [← lowUnits_exponent hg, roundLow_lowUnits hden (by unfold f64InfLow; omega)]
  refine ⟨he, ?_, ?_, hf⟩
  · exact hpower e he (hef.trans hf) ▸ roundLow_mono den hlower
  · exact hpower f (he.trans hef) hf ▸ roundLow_mono den hupper

/-- The unit of a product is taken out of two powers of two, in the bias of `ExponentWithin`. -/
theorem pow_mul_pow_eq_unit_mul {i j k : Nat} (hk : i + j = k + 1023) :
    2 ^ (i + 51) * 2 ^ (j + 51) = 2 ^ unitExponent * 2 ^ (k + 51) := by
  have hexponents : i + 51 + (j + 51) = unitExponent + (k + 51) := by
    unfold unitExponent
    omega
  rw [← Nat.pow_add, hexponents, Nat.pow_add]

namespace ExponentWithin

variable {e f e' f' i j a b : Nat}

theorem unit_mul_le_mul (ha : ExponentWithin e f a) (hb : ExponentWithin e' f' b) (hi : e + e' = i + 1023) :
    2 ^ unitExponent * 2 ^ (i + 51) ≤ lowUnits a * lowUnits b := by
  rw [← pow_mul_pow_eq_unit_mul hi]
  exact Nat.mul_le_mul ha.le_units hb.le_units

theorem mul_le_unit_mul (ha : ExponentWithin e f a) (hb : ExponentWithin e' f' b) (hj : f + f' = j + 1023) :
    lowUnits a * lowUnits b ≤ 2 ^ unitExponent * 2 ^ (j + 51) := by
  rw [← pow_mul_pow_eq_unit_mul hj]
  exact Nat.mul_le_mul ha.units_le hb.units_le

/-- The exponents of a product are the sums of the factors', without the bias. -/
theorem mul (ha : ExponentWithin e f a) (hb : ExponentWithin e' f' b) (hi : e + e' = i + 1023)
    (hj : f + f' = j + 1023) (hnormal : 1 ≤ i) (hfinite : j ≤ 2046) : ExponentWithin i j (mulLow a b) := by
  have hle := ha.le
  have hle' := hb.le
  unfold mulLow
  exact exponentWithin_roundLow (Nat.two_pow_pos _) hnormal hfinite (by omega) (ha.unit_mul_le_mul hb hi)
    (ha.mul_le_unit_mul hb hj)

theorem divisor_mul_le (ha : ExponentWithin e f a) (hb : ExponentWithin e' f' b) (hi : f' + i = e + 1023) :
    lowUnits b * 2 ^ (i + 51) ≤ lowUnits a * 2 ^ unitExponent := by
  refine (Nat.mul_le_mul_right _ hb.units_le).trans ?_
  rw [pow_mul_pow_eq_unit_mul hi, Nat.mul_comm]
  exact Nat.mul_le_mul_right _ ha.le_units

theorem le_divisor_mul (ha : ExponentWithin e f a) (hb : ExponentWithin e' f' b) (hj : e' + j = f + 1023) :
    lowUnits a * 2 ^ unitExponent ≤ lowUnits b * 2 ^ (j + 51) := by
  refine le_trans ?_ (Nat.mul_le_mul_right _ hb.le_units)
  rw [pow_mul_pow_eq_unit_mul hj, Nat.mul_comm]
  exact Nat.mul_le_mul_left _ ha.units_le

/-- The exponents of a quotient are the differences, with the bias. -/
theorem div (ha : ExponentWithin e f a) (hb : ExponentWithin e' f' b) (hi : f' + i = e + 1023)
    (hj : e' + j = f + 1023) (hnormal : 1 ≤ i) (hfinite : j ≤ 2046) : ExponentWithin i j (divLow a b) := by
  have hle := ha.le
  have hle' := hb.le
  unfold divLow
  exact exponentWithin_roundLow hb.units_pos hnormal hfinite (by omega) (ha.divisor_mul_le hb hi)
    (ha.le_divisor_mul hb hj)

/-! ### Doubling an operand of a product or a quotient -/

theorem mulLow_double (ha : ExponentWithin e f a) (hb : ExponentWithin e' f' b) (hi : e + e' = i + 1023)
    (hj : f + f' = j + 1023) (hnormal : 1 ≤ i) (hfinite : j + 1 ≤ 2046) :
    mulLow a (b + 2 ^ 52) = mulLow a b + 2 ^ 52 := by
  have hproduct := ha.mul hb hi hj hnormal (by omega)
  have hlarge : 2 ^ unitExponent * 2 ^ 52 ≤ lowUnits a * lowUnits b :=
    (Nat.mul_le_mul_left _ (significand_le_exponent hnormal)).trans (ha.unit_mul_le_mul hb hi)
  rw [mulLow, lowUnits_double hb.significand_le, Nat.mul_left_comm, roundLow_double hlarge (Nat.two_pow_pos _)]
  exact Nat.min_eq_right (hproduct.double hfinite).lt_inf.le

theorem divLow_double (ha : ExponentWithin e f a) (hb : ExponentWithin e' f' b) (hi : f' + i = e + 1023)
    (hj : e' + j = f + 1023) (hnormal : 1 ≤ i) (hfinite : j + 1 ≤ 2046) :
    divLow (a + 2 ^ 52) b = divLow a b + 2 ^ 52 := by
  have hquotient := ha.div hb hi hj hnormal (by omega)
  have hlarge : lowUnits b * 2 ^ 52 ≤ lowUnits a * 2 ^ unitExponent :=
    (Nat.mul_le_mul_left _ (significand_le_exponent hnormal)).trans (ha.divisor_mul_le hb hi)
  rw [divLow, lowUnits_double ha.significand_le, Nat.mul_assoc, roundLow_double hlarge hb.units_pos]
  exact Nat.min_eq_right (hquotient.double hfinite).lt_inf.le

/-- The product with 2.0 is exact (42 R176). -/
theorem f64Mul_two (ha : ExponentWithin e f a) (hfinite : f + 1 ≤ 2046) (neg : Bool) :
    f64Mul (f64Pack neg a) 0x4000000000000000#64 = f64Pack neg (a + 2 ^ 52) := by
  have hexponent : 1024 + 51 = unitExponent + 1 := rfl
  have htwo : lowUnits (1024 * 2 ^ 52) = 2 ^ unitExponent * 2 := by
    rw [lowUnits_exponent (by decide), hexponent, Nat.pow_succ]
  have hexact : mulLow a (1024 * 2 ^ 52) = a + 2 ^ 52 := by
    rw [mulLow, htwo, Nat.mul_comm, Nat.mul_assoc, ← lowUnits_double ha.significand_le,
      roundLow_lowUnits (Nat.two_pow_pos _) (ha.double hfinite).lt_inf]
  rw [eq_pack_toNat 0x4000000000000000#64]
  exact (f64Mul_pack ha.lt_inf (by decide)).trans (by rw [Bool.xor_false]; exact congrArg _ hexact)

end ExponentWithin

end Sys2Proof.Machine
end

section
/-! PROOFS. The Scaling Engine of 42_scaling_engine over every valid reference voltage. A voltage is a sign and a
magnitude: the sign is that of the adjusted code, and the magnitude is a monotone function of its size. -/

namespace Sys2Proof.Machine

/-! ### The adjusted code in halves -/

/-- Twice the adjusted code, an integer for a unipolar and for a bipolar range (42 R174). -/
def adjustedHalves (raw : BitVec 16) (r : InputRange) : Int :=
  if bipolar r then 2 * (raw.toNat : Int) - 65535 else 2 * (raw.toNat : Int)

/-- The number 0.5, in units. -/
def halfUnits : Nat := 2 ^ (unitExponent - 1)

/-- The lower 63 bits of `n / 2`. -/
def halvesLow (n : Nat) : Nat := roundLow (n * halfUnits) 1

theorem halfUnits_pos : 0 < halfUnits := Nat.two_pow_pos _

/-- The biased exponent of 0.5 is 1022. -/
theorem halfUnits_eq : halfUnits = 2 ^ (1022 + 51) := by
  have hexponent : unitExponent - 1 = 1022 + 51 := rfl
  rw [halfUnits, hexponent]

theorem one_eq_two_halves : 2 ^ 1074 = 2 * halfUnits := by
  have hexponent : 1074 = unitExponent - 1 + 1 := rfl
  rw [halfUnits, hexponent, Nat.pow_succ']

/-- A code is converted exactly, to twice as many halves (42 R174). -/
theorem f64Class_natToF64 {n : Nat} (hn : n ≤ 65535) : f64Class (natToF64 n) = .fin false (2 * n * halfUnits) := by
  rw [integersConvertExactly n (hn.trans (by decide)), one_eq_two_halves, Nat.mul_left_comm, Nat.mul_assoc]

theorem natAbs_adjustedHalves_le (raw : BitVec 16) (r : InputRange) : (adjustedHalves raw r).natAbs ≤ 2 ^ 17 := by
  have hraw := raw.isLt
  unfold adjustedHalves
  split <;> omega

/-- The adjusted code of a bipolar range is never 0, as 32767.5 is not an integer (42 R180(b)). -/
theorem adjustedHalves_ne_zero {raw : BitVec 16} {r : InputRange} (hbipolar : bipolar r = true) :
    adjustedHalves raw r ≠ 0 := by
  rw [adjustedHalves, if_pos hbipolar]
  omega

theorem adjustedHalves_mono {raw raw' : BitVec 16} (r : InputRange) (hle : raw.toNat ≤ raw'.toNat) :
    adjustedHalves raw r ≤ adjustedHalves raw' r := by
  unfold adjustedHalves
  split <;> omega

/-- The mirrored code is adjusted to the opposite number (42 R180(c)). -/
theorem adjustedHalves_mirror {raw : BitVec 16} {r : InputRange} (hbipolar : bipolar r = true) :
    adjustedHalves (0xFFFF#16 - raw) r = -adjustedHalves raw r := by
  have hmirror : (0xFFFF#16 - raw).toNat = 65535 - raw.toNat := by bv_omega
  have hraw := raw.isLt
  rw [adjustedHalves, adjustedHalves, if_pos hbipolar, if_pos hbipolar, hmirror]
  omega

theorem f64Class_neg_midscale : f64Class (f64Neg Config.midscale) = .fin true (65535 * halfUnits) := by
  have hunits : lowUnits (1036 * 2 ^ 52 + 65535 * 2 ^ 37) = 65535 * halfUnits := by
    have hexponent : 37 + 1036 = unitExponent - 1 := rfl
    rw [lowUnits_shift_add (by decide) (.inr (by decide)), Nat.mul_assoc, ← Nat.pow_add, hexponent, halfUnits]
  have hneg : f64Neg Config.midscale = f64Pack true (1036 * 2 ^ 52 + 65535 * 2 ^ 37) := by decide
  rw [hneg, f64Class_pack (by decide), hunits]

/-- The sum of two finite numbers that is not zero is the exact sum, rounded. -/
theorem f64Add_fin {a b : F64} {s t : Bool} {m n : Nat} (ha : f64Class a = .fin s m) (hb : f64Class b = .fin t n)
    (hne : signedUnits s m + signedUnits t n ≠ 0) :
    f64Add a b =
      f64Round (decide (signedUnits s m + signedUnits t n < 0)) (signedUnits s m + signedUnits t n).natAbs 1 := by
  simp only [f64Add, ha, hb, if_neg hne]

/-- Recentering is exact before its rounding, and its rounding is that of the difference in halves (42 R174). -/
theorem f64Sub_midscale {n : Nat} (hn : n ≤ 65535) :
    f64Sub (natToF64 n) Config.midscale =
      f64Pack (decide (2 * (n : Int) - 65535 < 0)) (halvesLow (2 * (n : Int) - 65535).natAbs) := by
  have hsum : signedUnits false (2 * n * halfUnits) + signedUnits true (65535 * halfUnits) =
      (2 * (n : Int) - 65535) * halfUnits := by
    rw [signedUnits, signedUnits, if_neg Bool.false_ne_true, if_pos rfl]
    push_cast
    ring
  have hpos : (0 : Int) < halfUnits := Int.natCast_pos.mpr halfUnits_pos
  have hne : (2 * (n : Int) - 65535) * halfUnits ≠ 0 := Int.mul_ne_zero (by omega) hpos.ne'
  have hsign : (2 * (n : Int) - 65535) * halfUnits < 0 ↔ 2 * (n : Int) - 65535 < 0 :=
    ⟨fun h => neg_of_mul_neg_left h hpos.le, fun h => mul_neg_of_neg_of_pos h hpos⟩
  rw [f64Sub, f64Add_fin (f64Class_natToF64 hn) f64Class_neg_midscale (hsum.trans_ne hne), hsum,
    decide_eq_decide.mpr hsign, Int.natAbs_mul, Int.natAbs_natCast, f64Round, halvesLow]

theorem adjustedRaw_eq (raw : BitVec 16) (r : InputRange) :
    adjustedRaw raw r = f64Pack (decide (adjustedHalves raw r < 0)) (halvesLow (adjustedHalves raw r).natAbs) := by
  have hraw := raw.isLt
  unfold adjustedRaw adjustedHalves
  split
  · exact f64Sub_midscale (by omega)
  · have hsize : (2 * (raw.toNat : Int)).natAbs * halfUnits = raw.toNat * 2 ^ 1074 := by
      rw [one_eq_two_halves, Int.natAbs_mul, Int.natAbs_natCast, Nat.mul_left_comm, ← Nat.mul_assoc]
      rfl
    rw [halvesLow, hsize, natToF64, f64Round, decide_eq_false (by omega)]

@[simp] theorem halvesLow_zero : halvesLow 0 = 0 := by simp [halvesLow]

theorem halvesLow_mono : Monotone halvesLow :=
  fun _ _ h => roundLow_mono 1 (Nat.mul_le_mul_right halfUnits h)

theorem halvesLow_within {n : Nat} (hpos : 1 ≤ n) (hle : n ≤ 2 ^ 17) : ExponentWithin 1022 1039 (halvesLow n) := by
  refine exponentWithin_roundLow Nat.one_pos (by decide) (by decide) (by decide) ?_ ?_
  · rw [← halfUnits_eq]
    exact Nat.mul_le_mul_right halfUnits hpos
  · have hlast : 1 * 2 ^ (1039 + 51) = 2 ^ 17 * halfUnits := by
      rw [halfUnits_eq, ← Nat.pow_add, Nat.one_mul]
    rw [hlast]
    exact Nat.mul_le_mul_right halfUnits hle

theorem halvesLow_lt_inf {n : Nat} (hle : n ≤ 2 ^ 17) : halvesLow n < f64InfLow := by
  rcases Nat.eq_zero_or_pos n with rfl | hpos
  · rw [halvesLow_zero]
    decide
  · exact (halvesLow_within hpos hle).lt_inf

/-! ### The exponents of the operands -/

theorem vref_within {v : F64} (hv : vrefValid v = true) : ExponentWithin 123 1923 v.toNat := by
  obtain ⟨hlower, hupper⟩ := (vrefValidIsABitInterval v).mp hv
  exact ⟨by decide, hlower, hupper, by decide⟩

theorem span_within (r : InputRange) : ExponentWithin 1022 1025 (span r).toNat := by
  cases r <;> constructor <;> decide

theorem fullScale_within : ExponentWithin 1038 1039 Config.fullScale.toNat := by
  constructor <;> decide

/-! ### The scale factor -/

theorem f64Div_fullScale {a e f : Nat} (ha : ExponentWithin e f a) :
    f64Div (f64Pack false a) Config.fullScale = f64Pack false (divLow a Config.fullScale.toNat) := by
  have h := f64Div_pack (s := false) (t := false) ha.lt_inf fullScale_within.lt_inf fullScale_within.units_pos.ne'
  rwa [← eq_pack_toNat] at h

/-- The lower 63 bits of `vref ⊗ span(i)`. -/
def productLow (r : InputRange) (v : F64) : Nat := mulLow v.toNat (span r).toNat

/-- The lower 63 bits of `(vref ⊗ span(i)) ⊘ 65535.0`. -/
def quotientLow (r : InputRange) (v : F64) : Nat := divLow (productLow r v) Config.fullScale.toNat

/-- The lower 63 bits of the scale factor. -/
def factorLow (r : InputRange) (v : F64) : Nat := if bipolar r then quotientLow r v + 2 ^ 52 else quotientLow r v

/-- The lower 63 bits of the voltage of an adjusted code of size `n / 2`. -/
def voltageLow (r : InputRange) (v : F64) (n : Nat) : Nat := mulLow (halvesLow n) (factorLow r v)

section

variable {r : InputRange} {v : F64} (hv : vrefValid v = true)
include hv

theorem productLow_within : ExponentWithin 122 1925 (productLow r v) :=
  (vref_within hv).mul (span_within r) rfl rfl (by decide) (by decide)

theorem quotientLow_within : ExponentWithin 106 1910 (quotientLow r v) :=
  (productLow_within hv).div fullScale_within rfl rfl (by decide) (by decide)

theorem factorLow_within : ExponentWithin 106 1911 (factorLow r v) := by
  obtain ⟨-, hlower, hupper, -⟩ := quotientLow_within (r := r) hv
  unfold factorLow
  split
  · exact ⟨by decide, by omega, by omega, by decide⟩
  · exact ⟨by decide, hlower, by omega, by decide⟩

theorem f64Mul_span : f64Mul v (span r) = f64Pack false (productLow r v) := by
  have h := f64Mul_pack (s := false) (t := false) (vref_within hv).lt_inf (span_within r).lt_inf
  rwa [← eq_pack_toNat, ← eq_pack_toNat] at h

theorem f64Div_product :
    f64Div (f64Mul v (span r)) Config.fullScale = f64Pack false (quotientLow r v) := by
  rw [f64Mul_span hv, f64Div_fullScale (productLow_within hv), quotientLow]

/-- Doubling the product doubles the quotient (42 R176). -/
theorem f64Div_doubled_product :
    f64Div (f64Pack false (productLow r v + 2 ^ 52)) Config.fullScale = f64Pack false (quotientLow r v + 2 ^ 52) := by
  have hproduct := productLow_within (r := r) hv
  rw [f64Div_fullScale (hproduct.double (by decide)),
    hproduct.divLow_double (i := 106) (j := 1910) fullScale_within rfl rfl (by decide) (by decide), quotientLow]

/-- Doubling the span doubles the product (42 R176). -/
theorem f64Mul_doubled_span :
    f64Mul v (f64Mul (span r) 0x4000000000000000#64) = f64Pack false (productLow r v + 2 ^ 52) := by
  have hvref := vref_within hv
  have hspan := span_within r
  have htwice := hspan.f64Mul_two (by decide) false
  have hmul := f64Mul_pack (s := false) (t := false) hvref.lt_inf (hspan.double (by decide)).lt_inf
  rw [← eq_pack_toNat] at htwice hmul
  rw [htwice, hmul, hvref.mulLow_double (i := 122) (j := 1925) hspan rfl rfl (by decide) (by decide), productLow]
  rfl

theorem scaleFactor_eq : scaleFactor r v = f64Pack false (factorLow r v) := by
  unfold scaleFactor factorLow
  rw [f64Div_product hv, (quotientLow_within hv).f64Mul_two (by decide)]
  split <;> rfl

/-! ### The voltage -/

theorem voltageLow_within {n : Nat} (hpos : 1 ≤ n) (hle : n ≤ 2 ^ 17) :
    ExponentWithin 105 1927 (voltageLow r v n) :=
  (halvesLow_within hpos hle).mul (factorLow_within hv) rfl rfl (by decide) (by decide)

theorem scale_eq (raw : BitVec 16) :
    scale raw r v = f64Pack (decide (adjustedHalves raw r < 0)) (voltageLow r v (adjustedHalves raw r).natAbs) := by
  rw [scale, adjustedRaw_eq, scaleFactor_eq hv,
    f64Mul_pack (halvesLow_lt_inf (natAbs_adjustedHalves_le raw r)) (factorLow_within hv).lt_inf, Bool.xor_false,
    voltageLow]

end

@[simp] theorem voltageLow_zero (r : InputRange) (v : F64) : voltageLow r v 0 = 0 := by simp [voltageLow]

theorem voltageLow_mono (r : InputRange) (v : F64) : Monotone (voltageLow r v) :=
  (mulLow_mono (factorLow r v)).comp halvesLow_mono

theorem voltageLow_lt_inf {r : InputRange} {v : F64} (hv : vrefValid v = true) {n : Nat} (hle : n ≤ 2 ^ 17) :
    voltageLow r v n < f64InfLow := by
  rcases Nat.eq_zero_or_pos n with rfl | hpos
  · rw [voltageLow_zero]
    decide
  · exact (voltageLow_within hv hpos hle).lt_inf

/-- The voltage of an adjusted code other than 0 is a normal number between `2 ^ -918` and `2 ^ 904`. -/
theorem voltageLow_code_within {raw : BitVec 16} {r : InputRange} {v : F64} (hv : vrefValid v = true)
    (hne : adjustedHalves raw r ≠ 0) : ExponentWithin 105 1927 (voltageLow r v (adjustedHalves raw r).natAbs) :=
  voltageLow_within hv (Int.natAbs_pos.mpr hne) (natAbs_adjustedHalves_le raw r)

/-- A monotone size with the sign of an integer is monotone in the integer. -/
theorem signedUnits_mono {size : Nat → Nat} (hsize : Monotone size) {a b : Int} (hle : a ≤ b) :
    signedUnits (decide (a < 0)) (size a.natAbs) ≤ signedUnits (decide (b < 0)) (size b.natAbs) := by
  unfold signedUnits
  rcases lt_or_ge a 0 with ha | ha <;> rcases lt_or_ge b 0 with hb | hb
  · have := hsize (show b.natAbs ≤ a.natAbs by omega)
    simp only [ha, hb, decide_true, if_true]
    omega
  · simp only [ha, hb.not_gt, decide_true, decide_false, if_true, Bool.false_eq_true, if_false]
    omega
  · omega
  · have := hsize (show a.natAbs ≤ b.natAbs by omega)
    simp only [ha.not_gt, hb.not_gt, decide_false, Bool.false_eq_true, if_false]
    omega

/-! ### The obligations -/

/-- Settles O50: the code adjusted to 0 is packed with the sign bit clear, and rounding keeps 0. -/
theorem unipolarZeroIsPositiveZero : Obligations.UnipolarZeroIsPositiveZero := by
  intro r v hunipolar hv
  have hzero : adjustedHalves 0x0000#16 r = 0 := by simp [adjustedHalves, hunipolar]
  rw [scale_eq hv, hzero, Int.natAbs_zero, voltageLow_zero]
  rfl

/-- Settles O51: the adjusted code is not 0, so the voltage is normal. -/
theorem bipolarNeverScalesToZero : Obligations.BipolarNeverScalesToZero := by
  intro raw r v hbipolar hv
  have hnormal := voltageLow_code_within hv (adjustedHalves_ne_zero (raw := raw) hbipolar)
  rw [scale_eq hv]
  exact ⟨hnormal.f64Pack_ne_zero _ false, hnormal.f64Pack_ne_zero _ true⟩

/-- Settles O52: the mirrored code has the same size and the opposite sign. -/
theorem bipolarScaleIsAntisymmetric : Obligations.BipolarScaleIsAntisymmetric := by
  intro raw r v hbipolar hv
  have hne := adjustedHalves_ne_zero (raw := raw) hbipolar
  have hsign : decide (-adjustedHalves raw r < 0) = !decide (adjustedHalves raw r < 0) := by
    rw [← decide_not]
    exact decide_eq_decide.mpr (by omega)
  rw [scale_eq hv, scale_eq hv, f64Neg_pack (voltageLow_code_within hv hne).lt_inf,
    adjustedHalves_mirror hbipolar, hsign, Int.natAbs_neg]

/-- Settles O53: the size of the voltage is monotone in the size of the adjusted code, and the sign is its sign. -/
theorem scaleIsMonotone : Obligations.ScaleIsMonotone := by
  intro raw raw' r v hv hle
  have hclass : ∀ code, f64Class (scale code r v) = .fin (decide (adjustedHalves code r < 0))
      (lowUnits (voltageLow r v (adjustedHalves code r).natAbs)) := fun code => by
    rw [scale_eq hv, f64Class_pack (voltageLow_lt_inf hv (natAbs_adjustedHalves_le code r))]
  have hsize : Monotone fun n => lowUnits (voltageLow r v n) :=
    lowUnits_strictMono.monotone.comp (voltageLow_mono r v)
  exact ⟨_, _, _, _, hclass raw, hclass raw', signedUnits_mono hsize (adjustedHalves_mono r hle)⟩

/-- Settles O54: the exponents of each stage stay among those of the normal numbers, for codes other than 0. -/
theorem scaleStaysFiniteAndNormal : Obligations.ScaleStaysFiniteAndNormal := by
  intro raw r v hv
  refine ⟨?_, ?_, ?_, ?_⟩
  · rw [f64Mul_span hv]
    exact (productLow_within hv).f64Normal_pack false
  · rw [f64Div_product hv]
    exact (quotientLow_within hv).f64Normal_pack false
  · rw [scaleFactor_eq hv]
    exact (factorLow_within hv).f64Normal_pack false
  · rw [adjustedRaw_eq, scale_eq hv]
    by_cases hzero : adjustedHalves raw r = 0
    · rw [hzero, Int.natAbs_zero, halvesLow_zero, voltageLow_zero]
      exact ⟨.inl rfl, .inl rfl⟩
    · have hhalves := halvesLow_within (Int.natAbs_pos.mpr hzero) (natAbs_adjustedHalves_le raw r)
      exact ⟨.inr (hhalves.f64Normal_pack _), .inr ((voltageLow_code_within hv hzero).f64Normal_pack _)⟩

/-- Settles O55: at each of the three places the doubling adds one to the exponent field of the quotient. -/
theorem doublingOrderDoesNotMatter : Obligations.DoublingOrderDoesNotMatter := by
  intro r v hv
  rw [f64Div_product hv, (quotientLow_within hv).f64Mul_two (by decide), f64Mul_span hv,
    (productLow_within hv).f64Mul_two (by decide), f64Div_doubled_product hv,
    f64Mul_doubled_span hv, f64Div_doubled_product hv]
  exact ⟨rfl, rfl⟩

/-- Settles O56: the examples are evaluated, and the code 65535 mirrors the code 0. -/
theorem scalingExamplesOfTheSource : Obligations.ScalingExamplesOfTheSource := by
  have hvref : vrefValid Config.vrefInternal = true := (vrefValidIsABitInterval _).mpr (by decide)
  have hlow : scale 0x0000#16 .bip0p625 Config.vrefInternal = 0xC0047AE147AE147B#64 := by decide +kernel
  refine ⟨by decide +kernel, hlow, ?_, by decide +kernel⟩
  have hmirror := bipolarScaleIsAntisymmetric 0x0000#16 .bip0p625 Config.vrefInternal rfl hvref
  rw [hlow] at hmirror
  exact hmirror

end Sys2Proof.Machine
end

section
/-! PROOFS. The operations of 43_block_operations, each a list of clauses over a free block: the checks that reject it,
and the frame and answer, or the load, when they pass; and READ_RAW repeated against a fixed transport. -/

namespace Sys2Proof.Machine

/-! ### Rejections -/

theorem transportVerdict_initError {x : BitVec 2} (hx : x = 1#2 ∨ x = 3#2) :
    transportVerdict x = some .transportInitError := if_pos hx

theorem transportVerdict_configurationError {x : BitVec 2} (hx : x = 2#2) :
    transportVerdict x = some .configurationError := by
  subst hx
  rfl

theorem exec_raise {i : Instr} {s : State} {st : Status} {c : BitVec 2} (hfree : s.occupied = false)
    (hraise : acceptRequest i s = s.raise st c) (hnoTimeout : st ≠ .configurationTimeout) :
    exec i s = .next (rejected st c s) := by
  rw [exec_free i hfree, hraise, raise_eq_rejected c hfree hnoTimeout]

/-- The two transport clauses of a request that raises the transport's verdict (60 R234, check 4). -/
theorem exec_transportVerdict {i : Instr} {s : State} (hfree : s.occupied = false)
    (hraise : ∀ st, transportVerdict s.xportStatus = some st → acceptRequest i s = s.raise st 0#2) :
    ((s.xportStatus = 1#2 ∨ s.xportStatus = 3#2) → exec i s = .next (rejected .transportInitError 0#2 s)) ∧
    (s.xportStatus = 2#2 → exec i s = .next (rejected .configurationError 0#2 s)) :=
  ⟨fun hx => exec_raise hfree (hraise _ (transportVerdict_initError hx)) nofun,
    fun hx => exec_raise hfree (hraise _ (transportVerdict_configurationError hx)) nofun⟩

theorem sendChecked_rejected {o a : Byte} {d : BitVec 16} {op : HostOp} {s : State} {st : Status}
    (hverdict : transportVerdict s.xportStatus = some st) : sendChecked o a d op s = s.raise st 0#2 := by
  rw [sendChecked, hverdict]

/-! ### SEND_RAW and the sampling requests -/

/-- Settles O15: SEND_RAW is accepted as the checked frame. -/
theorem sendRawFollowsItsRule : Obligations.SendRawFollowsItsRule := by
  intro o a d s hfree
  obtain ⟨hinitError, hconfigError⟩ :=
    exec_transportVerdict (i := .sendRaw o a d) hfree fun _ hverdict => sendChecked_rejected hverdict
  exact ⟨hinitError, hconfigError, fun hxport => sendsThenAnswers_of_sendChecked rfl hfree hxport⟩

/-- In READY a sampling request is the checked NOP frame (43 R207, R209). -/
theorem sampleAccepted_ready {op : HostOp} {s : State} (hready : s.fsm = .ready) :
    sampleAccepted op s = sendChecked 0x00#8 0x00#8 0x0000#16 op s := if_pos hready

/-- The rejections of a sampling request, in order (43 R207, R209). -/
theorem exec_sample_rejected {i : Instr} {op : HostOp} {s : State} (haccept : acceptRequest i s = sampleAccepted op s)
    (hfree : s.occupied = false) :
    (s.fsm ≠ .ready → exec i s = .next (rejected .notReady 0#2 s)) ∧
    (s.fsm = .ready → (s.xportStatus = 1#2 ∨ s.xportStatus = 3#2) →
      exec i s = .next (rejected .transportInitError 0#2 s)) ∧
    (s.fsm = .ready → s.xportStatus = 2#2 → exec i s = .next (rejected .configurationError 0#2 s)) := by
  have htransport (hready : s.fsm = .ready) := exec_transportVerdict (i := i) hfree fun st hverdict => by
    rw [haccept, sampleAccepted_ready hready, sendChecked_rejected hverdict]
  exact ⟨fun hready => exec_raise hfree (haccept.trans (if_neg hready)) nofun,
    fun hready => (htransport hready).1, fun hready => (htransport hready).2⟩

/-- Settles O16: the rejections of a sampling request, and in READY the checked NOP frame. -/
theorem readRawFollowsItsRule : Obligations.ReadRawFollowsItsRule := by
  intro s hfree
  obtain ⟨hnotReady, hinitError, hconfigError⟩ := exec_sample_rejected (i := .readRaw) rfl hfree
  exact ⟨hnotReady, hinitError, hconfigError, fun hready hxport =>
    sendsThenAnswers_of_sendChecked (i := .readRaw) (sampleAccepted_ready hready) hfree hxport⟩

/-- The exchange of a READ_SCALED ends it with the raw code and the voltage of the range the engine runs on (43 R209). -/
theorem completeExchange_scaled {rx : Frame} {s : State} {r : InputRange} (hidle : fsmBusy s.fsm = false)
    (hop : s.hostOp = some .scaled) (hengine : engineRange? s = some r) :
    completeExchange rx s = answered (codecDecode rx) (scale (codecDecode rx) r s.cfgVref) s := by
  rw [completeExchange_idle hidle, completeHostOp, hop]
  simp only [completeScaled, hengine]
  rfl

/-- Settles O17: the rejections of a sampling request, and in READY the checked NOP frame, whose return finds the
configuration for the engine. -/
theorem readScaledFollowsItsRule : Obligations.ReadScaledFollowsItsRule := by
  intro s hfree
  obtain ⟨hnotReady, hinitError, hconfigError⟩ := exec_sample_rejected (i := .readScaled) rfl hfree
  refine ⟨hnotReady, hinitError, hconfigError, fun r hready hxport hvalid hpresent hrange => ⟨?_, fun rx rest => ?_⟩⟩
  · have haccept : acceptRequest .readScaled s = sendChecked 0x00#8 0x00#8 0x0000#16 .scaled s :=
      sampleAccepted_ready hready
    rw [exec_free _ hfree, haccept, sendChecked_ready hxport]
    rfl
  · have hidle : fsmBusy s.fsm = false := fsmBusy_false.mpr (.inr hready)
    have hengine : engineRange? s = some r := engineRange?_some.mpr ⟨hvalid, hpresent, hrange⟩
    rw [step_transport rfl rfl]
    exact congrArg Host.Outcome.next (completeExchange_scaled hidle rfl hengine)

/-! ### CONFIGURE -/

theorem exists_rangeIndex {range : BitVec 4} (hrange : range.toNat ≤ 8) : ∃ r, range = rangeIndex r := by
  cases h : inputRange? range with
  | none => exact absurd (inputRange?_none.mp h) (by omega)
  | some r => exact ⟨r, inputRange?_some.mp h⟩

theorem configureVerdict_rangeTooLarge {range : BitVec 4} {ref : RefMode} {vv : Bool} {v : F64}
    (hrange : 8 < range.toNat) : configureVerdict range ref vv v = .error 0#2 := by
  rw [configureVerdict, inputRange?_none.mpr hrange]

theorem configureVerdict_voltageMissing (r : InputRange) (v : F64) :
    configureVerdict (rangeIndex r) .external false v = .error 1#2 := by
  simp [configureVerdict, inputRange?_some.mpr rfl]

theorem configureVerdict_voltageInvalid (r : InputRange) {v : F64} (hinvalid : vrefValid v = false) :
    configureVerdict (rangeIndex r) .external true v = .error 3#2 := by
  simp [configureVerdict, inputRange?_some.mpr rfl, hinvalid]

/-- A CONFIGURE that fails a field check is rejected with that check's cause, before the transport checks (43 R201). -/
theorem exec_configure_invalid {range : BitVec 4} {ref : RefMode} {vv : Bool} {v : F64} {s : State} {c : BitVec 2}
    (hfree : s.occupied = false) (hverdict : configureVerdict range ref vv v = .error c) :
    exec (.configure range ref vv v) s = .next (rejected .invalidConfiguration c s) := by
  have hraise : configureAccepted range ref vv v s = s.raise .invalidConfiguration c := by
    rw [configureAccepted, hverdict]
  exact exec_raise hfree hraise nofun

/-- A CONFIGURE that passes its field checks raises the transport's verdict (43 R201). -/
theorem configureAccepted_transportVerdict {range : BitVec 4} {ref : RefMode} {vv : Bool} {v : F64} {s : State}
    {r : InputRange} {st : Status} (hlegal : configureVerdict range ref vv v = .ok r)
    (hverdict : transportVerdict s.xportStatus = some st) :
    configureAccepted range ref vv v s = s.raise st 0#2 := by
  simp only [configureAccepted, hlegal, hverdict]

/-- Settles O19: a field check that fails gives its cause, and a CONFIGURE that passes them all is rejected by the
transport. -/
theorem configureChecksInOrder : Obligations.ConfigureChecksInOrder := by
  intro range ref vv v s hfree
  have htransport (hrange : range.toNat ≤ 8) (hvref : ref = .internal ∨ (vv = true ∧ vrefValid v = true)) :=
    exec_transportVerdict (i := .configure range ref vv v) hfree fun st hverdict => by
      obtain ⟨r, rfl⟩ := exists_rangeIndex hrange
      have hsupplied : ref = .external → vv = true ∧ vrefValid v = true := by
        rintro rfl
        exact hvref.resolve_left nofun
      exact configureAccepted_transportVerdict (configureVerdict_legal hsupplied) hverdict
  refine ⟨fun hrange => exec_configure_invalid hfree (configureVerdict_rangeTooLarge hrange), ?_, ?_,
    fun hrange hvref => (htransport hrange hvref).1, fun hrange hvref => (htransport hrange hvref).2⟩
  · rintro hrange rfl rfl
    obtain ⟨r, rfl⟩ := exists_rangeIndex hrange
    exact exec_configure_invalid hfree (configureVerdict_voltageMissing r v)
  · rintro hrange rfl rfl hinvalid
    obtain ⟨r, rfl⟩ := exists_rangeIndex hrange
    exact exec_configure_invalid hfree (configureVerdict_voltageInvalid r hinvalid)

/-- Settles O20: a legal CONFIGURE is accepted as the load, which selects the voltage by the reference. -/
theorem configureLoadsAndStarts : Obligations.ConfigureLoadsAndStarts := by
  intro r ref vv v s hfree hxport hvref
  rw [exec_free _ hfree, acceptRequest_configure hvref hxport]
  cases ref with
  | internal | external => rfl

/-! ### The reserved codes -/

/-- Settles O22: each reserved code is accepted as INVALID_REQUEST, and holds like every request. -/
theorem reservedCodesAreInvalidRequests : Obligations.ReservedCodesAreInvalidRequests := by
  intro i s hreserved
  have hraise : acceptRequest i s = s.raise .invalidRequest 0#2 := by
    rcases hreserved with rfl | rfl | rfl | rfl <;> rfl
  exact ⟨fun hfree => exec_raise hfree hraise nofun, fun hoccupied => exec_occupied i hoccupied⟩

/-! ### READ_RAW repeated -/

/-- A READ_RAW closed with FIXED(v): one exchange of the NOP frame, answered with `v` (43 R207, 60 R249). -/
theorem closedRun_readRaw_fixed {n : Nat} {v : BitVec 16} {s : State} {log : List (Frame × Frame)}
    {ws : List PortWord} (hready : s.fsm = .ready) (hfree : s.occupied = false) (hxport : s.xportStatus = 0#2)
    (hport : s.requests = encodePort .readRaw :: ws) :
    closedRun (n + 2) ⟨s, .fixed v, log⟩ =
      closedRun n ⟨answered v 0#64 { s with requests := ws, agenda := [] }, .fixed v,
        log ++ [(codecEncode 0x00#8 0x00#8 0x0000#16, valueFrame v)]⟩ := by
  obtain ⟨hidle, -, htx⟩ := occupied_false.mp hfree
  have hsent : blockMove s.quiet =
      { s.quiet with requests := ws }.startExchange (codecEncode 0x00#8 0x00#8 0x0000#16) (some .raw) :=
    (blockMove_accept (s := s.quiet) hfree hport rfl).trans (acceptRequest_readRaw hready hxport)
  have hanswered : completeExchange (valueFrame v) ({ s.quiet with requests := ws }.startExchange
      (codecEncode 0x00#8 0x00#8 0x0000#16) (some .raw)).quiet =
      answered (codecDecode (valueFrame v)) 0#64 { s with requests := ws, agenda := [] } := completeExchange_idle hidle
  rw [codecDecode_valueFrame] at hanswered
  rw [closedRun_succ (closedStep_block htx (hready ▸ rfl)), hsent, closedRun_succ (closedStep_return rfl),
    TestTransport.respond, hanswered]
  rfl

/-- Each READ_RAW leaves READY, the free block and the transport as it found them, so the next one does the same. -/
theorem closedRun_readRaws_fixed (n : Nat) {v : BitVec 16} {s : State} {log : List (Frame × Frame)}
    (hready : s.fsm = .ready) (hfree : s.occupied = false) (hxport : s.xportStatus = 0#2)
    (hport : s.requests = List.replicate (n + 1) (encodePort .readRaw)) :
    closedRun (2 * (n + 1)) ⟨s, .fixed v, log⟩ =
      some ⟨answered v 0#64 { s with requests := [], agenda := [] }, .fixed v,
        log ++ List.replicate (n + 1) (codecEncode 0x00#8 0x00#8 0x0000#16, valueFrame v)⟩ := by
  induction n generalizing s log with
  | zero => exact closedRun_readRaw_fixed hready hfree hxport hport
  | succ n ih =>
    have hnext : (answered v 0#64 { s with
        requests := List.replicate (n + 1) (encodePort .readRaw), agenda := [] }).occupied = false :=
      occupied_false.mpr ⟨fsmBusy_false.mpr (.inr hready), rfl, rfl⟩
    rw [Nat.mul_succ, closedRun_readRaw_fixed hready hfree hxport hport]
    refine Eq.trans (ih hready hnext hxport rfl) ?_
    rw [List.append_assoc]
    rfl

/-- Settles O58: `n + 1` requests are `n + 1` exchanges, and the last answer changes nothing but the response. -/
theorem repeatedReadRawDoesNotDrift : Obligations.RepeatedReadRawDoesNotDrift := by
  intro n v s hready hfree hxport hport
  obtain ⟨-, hop, htx⟩ := occupied_false.mp hfree
  refine ⟨_, closedRun_readRaws_fixed n hready hfree hxport hport, ?_, ?_⟩
  · rw [answered, ← hop, ← htx]
  · rw [List.nil_append, List.length_replicate]

end Sys2Proof.Machine
end

section
/-! PROOFS. The exceptions of 60_exceptions: the status codes at the response port, the transport's verdict on a command
frame, and SEND_RAW closed with the loopback transport. -/

namespace Sys2Proof.Machine

/-! ### The response port -/

theorem statusCode_ne_seven (st : Status) : statusCode st ≠ 7#3 := by
  cases st <;> decide

theorem responsePort_some {s : State} {p : ResponsePort} (h : responsePort s = some p) :
    p = ⟨statusCode s.rspStatus, s.rspCause, s.rspValue, s.rspVolts⟩ := by
  unfold responsePort at h
  split at h
  · exact (Option.some.inj h).symm
  · exact absurd h nofun

/-- Settles O40: the port shows the code of a status, and no status has code 7. -/
theorem statusCodesAtTheResponsePort : Obligations.StatusCodesAtTheResponsePort := by
  refine ⟨⟨rfl, rfl, rfl, rfl, rfl, rfl, rfl⟩, fun s p hport => ?_⟩
  rw [responsePort_some hport]
  exact statusCode_ne_seven s.rspStatus

/-! ### The transport's verdict on a command frame -/

/-- A command frame is accepted as the checked frame of its own parts (30 R75, R86). -/
theorem acceptRequest_commandFrame (f : Frame) :
    acceptRequest (decodePort (.cmd f)) = sendChecked f.f0 f.f1 (frameData f) .raw := by
  obtain ⟨-, -, haccept⟩ := decodeCommand_codecEncode f.f0 f.f1 (frameData f)
  rw [codecEncode_frameData] at haccept
  exact haccept

/-- Settles O14: a command frame is accepted as a checked frame, which raises the transport's verdict. -/
theorem commandFramesRejectedByTransport : Obligations.CommandFramesRejectedByTransport := by
  intro f s hfree
  refine exec_transportVerdict hfree fun st hverdict => ?_
  rw [acceptRequest_commandFrame, sendChecked_rejected hverdict]

/-! ### SEND_RAW through a test transport -/

theorem fsmSettling_of_idle {f : FsmState} (hidle : fsmBusy f = false) : fsmSettling f = false := by
  rcases fsmBusy_false.mp hidle with rfl | rfl <;> rfl

/-- A SEND_RAW with the transport ready, closed with any test transport: one exchange of its frame, answered with the
decoded response (43 R205). -/
theorem closedRun_sendRaw {n : Nat} {o a : Byte} {data : BitVec 16} {s : State} {d : TestTransport}
    {log : List (Frame × Frame)} {ws : List PortWord} (hfree : s.occupied = false) (hxport : s.xportStatus = 0#2)
    (hport : s.requests = encodePort (.sendRaw o a data) :: ws) :
    closedRun (n + 2) ⟨s, d, log⟩ =
      closedRun n ⟨answered (codecDecode d.respond) 0#64 { s with requests := ws, agenda := [] },
        d.after s.attempt (codecEncode o a data), log ++ [(codecEncode o a data, d.respond)]⟩ := by
  obtain ⟨hidle, -, htx⟩ := occupied_false.mp hfree
  have hsent : blockMove s.quiet =
      { s.quiet with requests := ws }.startExchange (codecEncode o a data) (some .raw) :=
    (blockMove_accept (s := s.quiet) hfree hport rfl).trans (sendChecked_ready hxport)
  have hanswered : completeExchange d.respond
      ({ s.quiet with requests := ws }.startExchange (codecEncode o a data) (some .raw)).quiet =
      answered (codecDecode d.respond) 0#64 { s with requests := ws, agenda := [] } := completeExchange_idle hidle
  rw [closedRun_succ (closedStep_block htx (fsmSettling_of_idle hidle)), hsent, closedRun_succ (closedStep_return rfl),
    hanswered]
  rfl

/-- Through LOOP the answer is the latch, and the latch becomes the opcode and the address (60 R248). -/
theorem closedRun_sendRaw_loop {n : Nat} {o a : Byte} {data latch : BitVec 16} {s : State}
    {log : List (Frame × Frame)} {ws : List PortWord} (hfree : s.occupied = false) (hxport : s.xportStatus = 0#2)
    (hport : s.requests = encodePort (.sendRaw o a data) :: ws) :
    closedRun (n + 2) ⟨s, .loop latch, log⟩ =
      closedRun n ⟨answered latch 0#64 { s with requests := ws, agenda := [] }, .loop (o ++ a),
        log ++ [(codecEncode o a data, valueFrame latch)]⟩ := by
  rw [closedRun_sendRaw hfree hxport hport, TestTransport.respond, codecDecode_valueFrame]
  rfl

/-- An answer leaves the block free for the next request (43 R212). -/
theorem occupied_answered {s : State} (v : BitVec 16) (volts : F64) (hidle : fsmBusy s.fsm = false) :
    (answered v volts s).occupied = false :=
  occupied_false.mpr ⟨hidle, rfl, rfl⟩

/-- Settles O57: the first call answers the latch and leaves its own pair there, which the second one answers. -/
theorem loopbackReturnsThePreviousPair : Obligations.LoopbackReturnsThePreviousPair := by
  intro o a o' a' d d' latch s hfree hxport hport
  obtain ⟨hidle, -, -⟩ := occupied_false.mp hfree
  have hfirst (n : Nat) := closedRun_sendRaw_loop (n := n) (latch := latch) (log := []) hfree hxport hport
  have hsecond := (hfirst 2).trans
    (closedRun_sendRaw_loop (n := 0) (occupied_answered latch 0#64 hidle) hxport rfl)
  exact ⟨⟨_, hfirst 0, rfl, rfl⟩, ⟨_, hsecond, rfl, rfl, rfl⟩⟩

end Sys2Proof.Machine
end

section
/-! PROOFS. The reset of 70_reset_and_hazards: a reset turn resets the block whatever is in progress, and leaves it free
and its response port empty. -/

namespace Sys2Proof.Machine

/-! ### The reset turn -/

/-- A reset is taken in every state, a busy one and one with an exchange out included (70 R270). -/
theorem step_resetTurn {s : State} (hturn : s.turn = .reset) : step s = .next s.beginStep.resetBlock := by
  rw [step_eq, hturn, turnMove]

/-! ### What a reset abandons -/

/-- The sequencer, the operation and the exchange in progress are all abandoned (70 R270). -/
@[simp] theorem resetBlock_occupied (s : State) : s.resetBlock.occupied = false :=
  occupied_false.mpr ⟨rfl, resetBlock_hostOp s, resetBlock_tx s⟩

/-- Absent response registers leave nothing to present at the port (30 R78, 10 R36). -/
theorem responsePort_absent {s : State} (habsent : s.rspPresent = false) : responsePort s = none := by
  simp [responsePort, habsent]

/-- Settles O41: a reset turn ends in `resetBlock`, whose fields are those of the reset state but for the inputs, which
the beginning of a step leaves alone but for the turn it takes. -/
theorem resetAbandonsEverything : Obligations.ResetAbandonsEverything := by
  intro s hturn
  have hport : responsePort s.beginStep.resetBlock = none := responsePort_absent (resetBlock_rspPresent _)
  refine ⟨s.beginStep.resetBlock, step_resetTurn hturn, ?_⟩
  simp [State.reset, hport]

end Sys2Proof.Machine
end
